-- ==== Sys2Proof/Word.lean ====
section
/-! DEFINITION. The word types of the AVN-340 and the last value of the clock (spec/00_scope.md, Conventions). -/

namespace Sys2Proof

/-- One byte of a frame, a record or a setting (00_scope.md, Conventions). -/
abbrev Byte := BitVec 8

/-- A request or acknowledgement tag, one nibble of a frame (R5, R7). -/
abbrev Tag := BitVec 4

/-- A stamp or clock value as ONE count of ticks, seconds × 1024 + ticks (R53): the seconds are its upper 32 bits and
the ticks its lower 10, so every value of the type is a stamp and every stamp is a value of the type. -/
abbrev Stamp := BitVec 42

/-- A schedule period, seconds × 1024 + ticks with 24 bits of seconds (R66, R71). -/
abbrev Span := BitVec 34

/-- The epoch end, 4 294 967 295.1023, the largest clock value (R53). -/
def epochEndStamp : Stamp := BitVec.allOnes 42

end Sys2Proof
end

