-- ==== Sys2Proof/Syntax.lean ====
section
/-! DEFINITION. The commands the AVN-340 takes: one constructor per row of spec/opcode_table.json. -/

namespace Sys2Proof

/-- The part's steps, each whole and indivisible (spec/opcode_table.json, spec/95_what_each_step_holds.md). A REQUEST row
carries no operand: what it performs is the request at the head of the part's own request queue, with the tag and the
payload that its down-frame brought (R17, R26). -/
inductive Instr where
  /-- NCS_FALL: A fall of nCS begins a transaction: the part fixes the whole up-frame image, or enters DISCARDING with SDO high-impedance if the link is inert. (R4) -/
  | ncsFall
  /-- NCS_RISE: A rise of nCS ends the transaction; a received down-frame is judged as one indivisible event, and an empty or abandoned transaction does nothing. (R9) `bits` are the levels of SDI at the rising edges of SCLK between the fall and this rise, in their order (R1). -/
  | ncsRise (bits : List Bool)
  /-- DEVICE_INFO: The executor performs DEVICE_INFO and returns the fixed 13-byte description of the part. (R34) -/
  | deviceInfo
  /-- DEVICE_RESET_LINK: The executor performs DEVICE_RESET of scope LINK, which makes one link flush and leaves no response. (R190) -/
  | deviceResetLink
  /-- DEVICE_RESET_FULL: The executor performs DEVICE_RESET of scope FULL, which makes a link flush and then the release of a pin reset with cause REQUEST, and leaves no response. (R190) -/
  | deviceResetFull
  /-- SETTING_READ: The executor performs SETTING_READ and returns a run of 1 to 16 stored settings. (R36) -/
  | settingRead
  /-- SETTING_WRITE: The executor performs SETTING_WRITE, which writes a run of settings all-or-nothing after the lock, state and range checks. (R37) -/
  | settingWrite
  /-- LOCK: The executor performs LOCK, which engages a set of one-way locks and returns the set that is engaged. (R39) -/
  | lock
  /-- LINK_STATS: The executor performs LINK_STATS, which returns the link error counter and clears it in the same event. (R42) -/
  | linkStats
  /-- TIME_READ: The executor performs TIME_READ and returns the clock value, uptime, validity, source, epoch-end flag and remaining slew. (R57) -/
  | timeRead
  /-- TIME_SET: The executor performs TIME_SET, which steps the clock, clears slew, shifts RELATIVE entries, records TIME_STEP and makes the clock VALID. (R59) -/
  | timeSet
  /-- TIME_SLEW: The executor performs TIME_SLEW, which replaces the remaining slew and returns the old value. (R61) -/
  | timeSlew
  /-- SCHED_ARM: The executor performs SCHED_ARM, which arms or replaces an entry with a due stamp, an optional period and budget, and its actions. (R73) -/
  | schedArm
  /-- SCHED_PAUSE: The executor performs SCHED_PAUSE, which makes an ARMED entry PAUSED and stores the remaining interval of a RELATIVE entry. (R75) -/
  | schedPause
  /-- SCHED_RESUME: The executor performs SCHED_RESUME, which makes a PAUSED entry ARMED again and re-bases a RELATIVE entry's due stamp. (R76) -/
  | schedResume
  /-- SCHED_CANCEL: The executor performs SCHED_CANCEL, which makes an entry FREE and returns its former state. (R77) -/
  | schedCancel
  /-- SCHED_READ: The executor performs SCHED_READ and returns the 51-byte contents of one entry. (R78) -/
  | schedRead
  /-- SCHED_SUMMARY: The executor performs SCHED_SUMMARY and returns the state maps and the next entry in firing order. (R79) -/
  | schedSummary
  /-- JOURNAL_PULL: The executor performs JOURNAL_PULL, which delivers up to 3 records from the cursor and moves the cursor past them. (R107) -/
  | journalPull
  /-- JOURNAL_ACK: The executor performs JOURNAL_ACK, which removes delivered records from the head up to the given sequence number. (R108) -/
  | journalAck
  /-- JOURNAL_REWIND: The executor performs JOURNAL_REWIND, which moves the cursor back to the head. (R109) -/
  | journalRewind
  /-- JOURNAL_NOTE: The executor performs JOURNAL_NOTE, which appends a HOST_NOTE record holding six host bytes, or has it discarded by the policy. (R110) -/
  | journalNote
  /-- JOURNAL_STATUS: The executor performs JOURNAL_STATUS and returns the journal's counts, positions and policy. (R111) -/
  | journalStatus
  /-- SENSE_READ: The executor performs SENSE_READ and returns the raw samples, filtered levels, candidates, marks and window counts of the lines. (R128) -/
  | senseRead
  /-- COUNTER_START: The executor performs COUNTER_CONTROL START, which makes a STOPPED counter RUNNING and loads it first if it is empty. (R136) -/
  | counterStart
  /-- COUNTER_START_FORCE: The executor performs COUNTER_CONTROL START_FORCE, which loads the counter from its latch and makes it RUNNING. (R136) -/
  | counterStartForce
  /-- COUNTER_STOP: The executor performs COUNTER_CONTROL STOP, which makes a RUNNING counter STOPPED and keeps its value. (R136) -/
  | counterStop
  /-- COUNTER_LOAD: The executor performs COUNTER_CONTROL LOAD, which loads the counter's value from its latch without changing its state. (R136) -/
  | counterLoad
  /-- COUNTER_LATCH: The executor performs COUNTER_LATCH, which replaces a counter's latch and returns the old latch. (R137) -/
  | counterLatch
  /-- COUNTER_READ: The executor performs COUNTER_READ and returns the value, latch, status and expiry count of both counters. (R138) -/
  | counterRead
  /-- OUTPUT_WRITE: The executor performs OUTPUT_WRITE, which sets the levels of the host-owned, unforced lines that the mask names and cancels their pulses. (R147) -/
  | outputWrite
  /-- OUTPUT_PULSE: The executor performs OUTPUT_PULSE, which starts or retriggers a pulse on a host-owned line. (R148) -/
  | outputPulse
  /-- OUTPUT_CLAIM: The executor performs OUTPUT_CLAIM, which gives an unforced line to a new owner and cancels any pending pulse. (R146) -/
  | outputClaim
  /-- OUTPUT_READ: The executor performs OUTPUT_READ and returns the owner, level, flags, pin state and pulse remaining of all six lines. (R153) -/
  | outputRead
  /-- WD_START: The executor performs WD_START, which moves a DORMANT supervisor to WATCHING with fresh timers and token 0. (R158) -/
  | wdStart
  /-- WD_FEED: The executor performs WD_FEED, which the supervisor judges as a good or bad feed by window and token. (R160) -/
  | wdFeed
  /-- WD_STOP: The executor performs WD_STOP, which returns the supervisor to DORMANT unless it is locked, RESETTING or HOLDING. (R159) -/
  | wdStop
  /-- WD_STATUS: The executor performs WD_STATUS and returns the supervisor's state, timers, token and counts. (R171) -/
  | wdStatus
  /-- NOTIFY_ENABLE_SET: The executor performs NOTIFY_ENABLE with SET, which enables the causes the mask names. (R177) -/
  | notifyEnableSet
  /-- NOTIFY_ENABLE_CLEAR: The executor performs NOTIFY_ENABLE with CLEAR, which disables the causes the mask names. (R177) -/
  | notifyEnableClear
  /-- NOTIFY_ACK: The executor performs NOTIFY_ACK, which clears each event cause's pending flag whose count-seen still matches. (R179) -/
  | notifyAck
  /-- NOTIFY_READ: The executor performs NOTIFY_READ and returns the pending mask, the enable mask and the occurrence counts. (R178) -/
  | notifyRead
  /-- TICK_BOUNDARY: At each of the 1024 boundaries per second the part performs steps (a) to (h) in order as one indivisible event. (R50) `sense` holds the levels at the pins S0 to S7 when step (c) reads them (bit n is S n, R117); `vmainGood` says that VMAIN is above the restore threshold at the reading after step (h) (R184). -/
  | tickBoundary (sense : BitVec 8) (vmainGood : Bool)
  /-- CRYSTAL_GOOD: When 16384 crystal cycles have completed without a gap, the monitor declares the crystal good and holds that declaration pending. (R45) -/
  | crystalGood
  /-- CRYSTAL_FAILED: When the gap count reaches 33 RC cycles while the monitor is GOOD, the crystal is declared failed and the divider resumes on RC. (R45) -/
  | crystalFailed
  /-- SOURCE_CHANGE: At step (a) of the boundary after a declaration, the clock source changes as the pending declaration requires. (R46) -/
  | sourceChange
  /-- EPOCH_END: When the clock reaches 4294967295.1023 it stops, and a TIME_STEP record with EPOCH and a TIME_STEP occurrence are made. (R56) -/
  | epochEnd
  /-- RATE_WINDOW_CLOSE: At step (b) of each rate-window boundary every line's window closes, with SENSE_SUPPRESSED records where needed, and a new window opens. (R123) -/
  | rateWindowClose
  /-- CONFIRMED_CHANGE: When a line's stable count exceeds F, its filtered level changes and the change is judged against the edge setting. (R118) `line` is the sense line, 0 to 7. -/
  | confirmedChange (line : Nat)
  /-- EXPIRY: A counter that reaches 0 expires: it counts the expiry, reloads, stops if ONE_SHOT, applies its effect, records and raises its cause. (R133) `counter` is the counter, 0 or 1. -/
  | expiry (counter : Nat)
  /-- REVERT: When a pulse's remaining count reaches 0 at step (e), the line returns to its revert level. (R149) `line` is the output line, 0 to 5. -/
  | revert (line : Nat)
  /-- FIRE: A due ARMED entry fires at step (f): it settles, counts and performs its actions, uses up its budget and advances. (R81) `entry` is the schedule entry, 0 to 31. -/
  | fire (entry : Nat)
  /-- TIMEOUT: When elapsed reaches the joined timeout in WATCHING, the supervisor enters WARNED with reason TIMEOUT. (R162) -/
  | timeout
  /-- SILENCE: When the silence count reaches WD_SILENCE in WATCHING, the supervisor enters WARNED with reason SILENCE. (R162) -/
  | silence
  /-- GRACE: When the grace runs out in WARNED, the supervisor enters RESETTING, or HOLDING if the count is exhausted. (R164) -/
  | grace
  /-- PULSE_END: When the HRST pulse runs out, HRST is released, forcing ends and the supervisor enters REARM with token 0. (R165) -/
  | pulseEnd
  /-- BOOT: When the boot allowance runs out in REARM, the supervisor enters RESETTING, or HOLDING. (R165) -/
  | boot
  /-- ENTER_HELD: nRST recognised low in ACTIVE enters HELD: sets the hold mark, flushes the link, forces every line, sets HRST and releases nINT. (R185) -/
  | enterHeld
  /-- RELEASE: nRST recognised high in HELD, or after a return with the hold mark set, performs the pin-reset release and enters ACTIVE. (R189) -/
  | release
  /-- ENTER_BACKUP: A main fail with the backup cell present enters BACKUP: flush, pins released, HRST high, POWER_DOWN record, supervisor SUSPENDED. (R186) -/
  | enterBackup
  /-- RETURN_FROM_BACKUP: When the restore count reaches 66 the part returns to ACTIVE or HELD, appends POWER_UP, raises POWER and re-arms the supervisor. (R187) -/
  | returnFromBackup
  /-- POWER_LOSS: With both supplies gone the part keeps nothing, and no record marks the loss. (R184) -/
  | powerLoss
  /-- POWER_ON_HOLD: A rise of a supply after both were absent begins power-on hold, with HRST high and every other output high-impedance. (R188) `nrstHigh` is the first reading of nRST, at the rise of the supply (R183). -/
  | powerOnHold (nrstHigh : Bool)
  /-- POWER_ON_RESET: After 66 RC ticks of good VMAIN the hold ends: every block takes its power-on values, and the DEVICE_RESET POWER_ON record is appended. (R188) -/
  | powerOnReset
  /-- GAP_LONGER_THAN_1_MS: A gap of 33 RC cycles without a completed crystal cycle while the monitor is NOT_GOOD returns its good-cycle count to 0, with no declaration and no record. (R45) -/
  | gapLongerThan1Ms
  /-- NRST_READING: Every 16 RC cycles the part reads nRST and changes the recognised level after two equal consecutive readings, even in BACKUP and power-on hold where it takes no other action. (R183) `high` is the level read at nRST. -/
  | nrstReading (high : Bool)
  deriving DecidableEq, Repr

end Sys2Proof
end

