-- ==== Sys2Proof/Config.lean ====
section
/-! DEFINITION. What one AVN-340 fixes (its capacities) and the values the spec leaves free. The free values have no
body: no proof can see what they are. -/

namespace Sys2Proof.Config

/-- Capacity of the request queue and of the response queue (R2, R34). -/
def queueCapacity : Nat := 4

/-- Most payload bytes of a request or a response (R2, R5, R10). -/
def maxPayload : Nat := 56

/-- Quota of general records (R93). -/
def generalQuota : Nat := 240

/-- Quota of system records (R93). -/
def systemQuota : Nat := 16

/-- Boundaries (R184) or RC ticks (R188) of good VMAIN that end BACKUP or the power-on hold. -/
def restoreTicks : Nat := 66

/-- Crystal cycles without a gap after which the crystal is declared good (R45). -/
def goodCycles : Nat := 16384

/-- RC cycles without a crystal cycle that make a gap longer than 1 ms (R45). -/
def gapCycles : Nat := 33

/-- Whether the `i`-th oscillator cycle of the part's own running is a crystal cycle; otherwise it is an RC cycle. FREE:
the spec gives the two oscillators no common phase (R44). -/
opaque crystalCycleNext : Nat → Bool

/-- The levels at S0 to S7 when a boundary of the part's own running samples them. FREE: the pins are the board's. -/
opaque senseLevels : Nat → BitVec 8

/-- The level at nRST at a reading of the part's own running. FREE: the pin is the board's. -/
opaque nrstHigh : Nat → Bool

/-- Whether VMAIN is above the restore threshold at a reading of the part's own running. FREE: the supply is the board's. -/
opaque vmainGood : Nat → Bool

end Sys2Proof.Config
end

