-- ==== Sys2Proof/Machine/Settings.lean ====
section
/-! DEFINITION. The settings space: the 44 one-byte settings of R35, their defaults, ranges and lock classes, and the
named fields that the blocks read from them. -/

namespace Sys2Proof.Machine

/-- The settings space, indices 00H to 2BH (R35). -/
abbrev Settings := Vector Byte 44

/-- The lock class of a setting (R35, last column). -/
inductive LockClass where
  | none | outputs | supervisor
  deriving DecidableEq, Repr

/-- The default of the setting at an index (R35, column Default). -/
def settingDefault (i : Nat) : Byte :=
  if i < 0x08 then 0x04        -- SENSE_MODE: OFF, BOTH
  else if i < 0x10 then 2      -- SENSE_FILTER
  else if i < 0x23 then 0      -- SENSE_RATE, OUT_CFG, CNT_CFG, CNT_LINE, JNL_POLICY
  else if i = 0x23 then 16     -- JNL_THRESHOLD
  else if i = 0x24 then 0      -- WD_WINDOW
  else if i = 0x25 then 0xA0   -- WD_TIMEOUT_L
  else if i = 0x26 then 0      -- WD_TIMEOUT_H
  else if i = 0x27 then 32     -- WD_GRACE
  else if i = 0x28 then 4      -- WD_PULSE
  else if i = 0x29 then 10     -- WD_BOOT
  else if i = 0x2A then 3      -- WD_RETRY
  else 0                       -- WD_SILENCE

/-- Every setting at its default (R41, power-on reset). -/
def Settings.default : Settings := Vector.ofFn fun i => settingDefault i.val

/-- The lock class of the setting at an index (R35). -/
def lockClass (i : Nat) : LockClass :=
  if 0x18 ≤ i ∧ i ≤ 0x1D then .outputs else if 0x24 ≤ i ∧ i ≤ 0x2B then .supervisor else .none

/-- Whether a value is inside the range and the encoding of the setting at an index, each setting on its own (R35). The
joined timeout is checked apart (R38). -/
def settingInRange (i : Nat) (v : Byte) : Bool :=
  if i < 0x08 then v.extractLsb' 1 2 != 3 && v.extractLsb' 5 2 != 3 && !v.getLsbD 7
  else if i < 0x10 then decide (v.toNat ≤ 15)
  else if i < 0x18 then decide (v.toNat ≤ 63)
  else if i < 0x1E then v.extractLsb' 0 2 != 3 && v.extractLsb' 4 4 == 0
  else if i < 0x20 then
    !(decide (4 ≤ (v.extractLsb' 0 4).toNat) && decide ((v.extractLsb' 0 4).toNat ≤ 7)) &&
      !(i == 0x1E && v.extractLsb' 0 4 == 3) && v.extractLsb' 6 2 == 0
  else if i < 0x22 then
    decide ((v.extractLsb' 0 3).toNat ≤ 5) && v.extractLsb' 3 2 != 3 && v.extractLsb' 5 3 == 0
  else if i = 0x22 then decide (v.toNat ≤ 1)
  else if i = 0x23 then decide (1 ≤ v.toNat) && decide (v.toNat ≤ 240)
  else if i = 0x26 then decide (v.toNat ≤ 0x0F)
  else if i = 0x27 ∨ i = 0x28 ∨ i = 0x29 then decide (1 ≤ v.toNat)
  else if i = 0x2A then decide (1 ≤ v.toNat) && decide (v.toNat ≤ 7)
  else decide (i ≤ 0x2B)

/-! ## Sense settings (R35 rows 00H to 17H, 06_sense_inputs.md 6.2) -/

/-- Which confirmed changes qualify (R120). -/
inductive Edges where
  | rise | fall | both
  deriving DecidableEq, Repr

/-- The capture select of a sense line (R122). -/
inductive Capture where
  | none | c0 | c1
  deriving DecidableEq, Repr

/-- SENSE_MODE_n as stored. -/
def Settings.senseMode (cfg : Settings) (n : Fin 8) : Byte := cfg[n.val]'(by omega)

/-- The mode of the line is EDGE, not OFF (bit 0). -/
def Settings.senseEdgeMode (cfg : Settings) (n : Fin 8) : Bool := (cfg.senseMode n).getLsbD 0

/-- The edge setting of the line (bits 2–1). -/
def Settings.senseEdges (cfg : Settings) (n : Fin 8) : Edges :=
  match (cfg.senseMode n).extractLsb' 1 2 with
  | 0 => .rise
  | 1 => .fall
  | _ => .both

/-- The notify flag of the line (bit 3). -/
def Settings.senseNotify (cfg : Settings) (n : Fin 8) : Bool := (cfg.senseMode n).getLsbD 3

/-- The backup-watch flag of the line (bit 4). -/
def Settings.senseWatch (cfg : Settings) (n : Fin 8) : Bool := (cfg.senseMode n).getLsbD 4

/-- The capture select of the line (bits 6–5). -/
def Settings.senseCapture (cfg : Settings) (n : Fin 8) : Capture :=
  match (cfg.senseMode n).extractLsb' 5 2 with
  | 1 => .c0
  | 2 => .c1
  | _ => .none

/-- The filter length F of the line (SENSE_FILTER_n). -/
def Settings.senseFilter (cfg : Settings) (n : Fin 8) : Byte := cfg[0x08 + n.val]'(by omega)

/-- The rate limit L of the line (SENSE_RATE_n), 0 for unlimited. -/
def Settings.senseRate (cfg : Settings) (n : Fin 8) : Byte := cfg[0x10 + n.val]'(by omega)

/-! ## Output settings (R35 row 18H to 1DH, 08_output_lines.md 8.2) -/

/-- The drive of an output line (R145). -/
inductive Drive where
  | off | pushPull | openDrain
  deriving DecidableEq, Repr

/-- OUT_CFG_n as stored. -/
def Settings.outCfg (cfg : Settings) (n : Fin 6) : Byte := cfg[0x18 + n.val]'(by omega)

/-- The drive of the line (bits 1–0). -/
def Settings.outDrive (cfg : Settings) (n : Fin 6) : Drive :=
  match (cfg.outCfg n).extractLsb' 0 2 with
  | 1 => .pushPull
  | 2 => .openDrain
  | _ => .off

/-- The safe level of the line (bit 2). -/
def Settings.outSafe (cfg : Settings) (n : Fin 6) : Bool := (cfg.outCfg n).getLsbD 2

/-- The escalate flag of the line (bit 3). -/
def Settings.outEscalate (cfg : Settings) (n : Fin 6) : Bool := (cfg.outCfg n).getLsbD 3

/-! ## Counter settings (R35 rows 1EH to 21H, 07_interval_counters.md 7.1) -/

/-- The source of a counter (R132). -/
inductive CounterSource where
  | tick1024 | tick32 | tick1 | c0Expiry
  | sense (line : Fin 8)
  deriving DecidableEq, Repr

/-- What an expiry does to the effect line (R134). -/
inductive CounterEffect where
  | none | pulse | toggle
  deriving DecidableEq, Repr

/-- CNT_CFG_n as stored. -/
def Settings.cntCfg (cfg : Settings) (n : Fin 2) : Byte := cfg[0x1E + n.val]'(by omega)

/-- The source of the counter (bits 3–0); codes 4 to 7 are never stored (R35). -/
def Settings.cntSource (cfg : Settings) (n : Fin 2) : CounterSource :=
  let code := (cfg.cntCfg n).extractLsb' 0 4
  if code.getLsbD 3 then .sense ⟨(code.extractLsb' 0 3).toNat, (code.extractLsb' 0 3).isLt⟩
  else match code.extractLsb' 0 3 with
    | 0 => .tick1024
    | 1 => .tick32
    | 2 => .tick1
    | _ => .c0Expiry

/-- The mode of the counter is ONE_SHOT, not CONTINUOUS (bit 4). -/
def Settings.cntOneShot (cfg : Settings) (n : Fin 2) : Bool := (cfg.cntCfg n).getLsbD 4

/-- The journal flag of the counter (bit 5). -/
def Settings.cntJournal (cfg : Settings) (n : Fin 2) : Bool := (cfg.cntCfg n).getLsbD 5

/-- CNT_LINE_n as stored. -/
def Settings.cntLine (cfg : Settings) (n : Fin 2) : Byte := cfg[0x20 + n.val]'(by omega)

/-- The effect line of the counter (bits 2–0), absent for the lines 6 and 7, which are never stored (R35). -/
def Settings.cntEffectLine (cfg : Settings) (n : Fin 2) : Option (Fin 6) :=
  let l := ((cfg.cntLine n).extractLsb' 0 3).toNat
  if h : l < 6 then some ⟨l, h⟩ else none

/-- The effect of the counter (bits 4–3). -/
def Settings.cntEffect (cfg : Settings) (n : Fin 2) : CounterEffect :=
  match (cfg.cntLine n).extractLsb' 3 2 with
  | 1 => .pulse
  | 2 => .toggle
  | _ => .none

/-! ## Journal settings (R35 rows 22H and 23H) -/

/-- JNL_POLICY is KEEP_NEWEST, not KEEP_OLDEST. -/
def Settings.keepNewest (cfg : Settings) : Bool := cfg[0x22] == 1

/-- JNL_THRESHOLD. -/
def Settings.threshold (cfg : Settings) : Nat := cfg[0x23].toNat

/-! ## Supervisor settings (R35 rows 24H to 2BH, R38) -/

/-- WD_WINDOW, beats. -/
def Settings.wdWindow (cfg : Settings) : Nat := cfg[0x24].toNat

/-- The joined timeout WD_TIMEOUT_H × 256 + WD_TIMEOUT_L, beats (R38). -/
def Settings.wdTimeout (cfg : Settings) : Nat := cfg[0x26].toNat * 256 + cfg[0x25].toNat

/-- WD_GRACE, beats. -/
def Settings.wdGrace (cfg : Settings) : Nat := cfg[0x27].toNat

/-- WD_PULSE, beats. -/
def Settings.wdPulse (cfg : Settings) : Nat := cfg[0x28].toNat

/-- The boot allowance, WD_BOOT × 16 beats (R156). -/
def Settings.wdBootBeats (cfg : Settings) : Nat := cfg[0x29].toNat * 16

/-- WD_RETRY, the host resets allowed. -/
def Settings.wdRetry (cfg : Settings) : Nat := cfg[0x2A].toNat

/-- WD_SILENCE, beats, 0 for no silence check. -/
def Settings.wdSilence (cfg : Settings) : Nat := cfg[0x2B].toNat

/-- Writes a run of values from an index on; values past 2BH fall away (R37 refuses such a run before it is written). -/
def Settings.writeRun (cfg : Settings) : Nat → List Byte → Settings
  | _, [] => cfg
  | i, v :: rest => Settings.writeRun (cfg.setIfInBounds i v) (i + 1) rest

end Sys2Proof.Machine
end

