-- ==== Sys2Proof/Machine/State.lean ====
section
/-! DEFINITION. The state of the AVN-340 as plain data: every item the spec gives the block, and the state right after a
power-on reset. -/

namespace Sys2Proof.Machine

/-- Why the machine stops. Nothing the spec describes stops the part: these answer only commands that are not well formed
(log entry 26). -/
inductive Fault where
  /-- Raised by CONFIRMED_CHANGE and REVERT naming a line the part does not have. Safe: the part has no such event. -/
  | noSuchLine
  /-- Raised by EXPIRY naming a counter the part does not have. Safe: the part has no such event. -/
  | noSuchCounter
  /-- Raised by FIRE naming an entry the part does not have. Safe: the part has no such event. -/
  | noSuchEntry
  deriving DecidableEq, Repr

/-- Why a command has no meaning. -/
inductive Refusal where
  /-- Raised by an arm of `exec` whose command has no meaning yet; no arm is left so. Safe: the model stops. -/
  | notModelled (mnemonic : String)
  deriving DecidableEq, Repr

/-! ## Host link (R2) -/

/-- The transaction state (R3). IDLE is nCS high; RECEIVING and DISCARDING are nCS low. -/
inductive Transaction where
  | idle | receiving | discarding
  deriving DecidableEq, Repr

/-- The request kinds of the catalogue (R33): one for each of its 36 rows. -/
inductive Kind where
  | poll
  | deviceInfo | deviceReset | settingRead | settingWrite | lock | linkStats
  | timeRead | timeSet | timeSlew
  | schedArm | schedPause | schedResume | schedCancel | schedRead | schedSummary
  | journalPull | journalAck | journalRewind | journalNote | journalStatus
  | senseRead
  | counterControl | counterLatch | counterRead
  | outputWrite | outputPulse | outputClaim | outputRead
  | wdStart | wdFeed | wdStop | wdStatus
  | notifyEnable | notifyAck | notifyRead
  deriving DecidableEq, Repr

/-- A waiting request (R2): its kind, its tag and its payload. -/
structure Request where
  kind : Kind
  tag : Tag
  payload : List Byte
  deriving DecidableEq, Repr

/-- The result of a request (R29). -/
inductive Result where
  | ok | range | state | locked | timeInvalid | notOwner | safeHold | feedFault
  deriving DecidableEq, Repr

/-- A response (R31): the tag of its request, a result and a payload. -/
structure Response where
  tag : Tag
  result : Result
  payload : List Byte
  deriving DecidableEq, Repr

/-- The judgement of a down-frame (R11). -/
inductive Verdict where
  | none | accepted | poll | duplicate | queueFull | crcFail | malformed | short
  deriving DecidableEq, Repr

/-- The receive record (R7): the whole bytes counted, bytes 0 to 2 of the frame, the payload kept, the running CRC-8, and
the outcome of the comparison of byte 3+L with it (log entry 12). -/
structure ReceiveRecord where
  count : Nat
  kind : Byte
  tags : Byte
  length : Byte
  payload : List Byte
  crc : Byte
  crcMatch : Bool
  deriving DecidableEq, Repr

/-- A cleared receive record, the CRC-8 register at FFH (R3, R8). -/
def ReceiveRecord.clear : ReceiveRecord := ⟨0, 0, 0, 0, [], 0xFF, false⟩

/-- The host link's state (R2). The inert flag of R24 is the operating state not being ACTIVE (log entry 23). -/
structure Link where
  txn : Transaction
  image : List Byte
  rx : ReceiveRecord
  lastTag : Option Tag
  verdict : Verdict
  verdictTag : Tag
  epoch : Bool
  errors : Byte
  requests : List Request
  responses : List Response
  deriving DecidableEq, Repr

/-! ## Timebase (R44 to R65) -/

/-- The crystal monitor (R45). -/
inductive Monitor where
  | notGood (count : Nat)
  | good
  deriving DecidableEq, Repr

/-- A declaration of the crystal monitor (R45). -/
inductive Declaration where
  | good | failed
  deriving DecidableEq, Repr

/-- The clock source (R46). -/
inductive ClockSource where
  | rcStartup | xtal | holdover
  deriving DecidableEq, Repr

/-- The timebase's state (03_timebase_and_clock.md, table of 3.1). `slew` is signed, in two's complement. -/
structure Timebase where
  monitor : Monitor
  declaration : Option Declaration
  gap : Nat
  source : ClockSource
  divider : Nat
  uptime : BitVec 32
  clock : Stamp
  valid : Bool
  epochFlag : Bool
  slew : BitVec 16
  slewHold : Bool
  holdover : BitVec 32
  deriving DecidableEq, Repr

/-! ## Schedule (R66) -/

/-- The state of an entry (R67). -/
inductive EntryState where
  | free | armed | paused | spent
  deriving DecidableEq, Repr

/-- An action of an entry (R68). -/
inductive Action where
  | journal (userTag : BitVec 16)
  | notify
  | outputLevel (line : Fin 6) (level : Bool)
  | outputPulse (line : Fin 6) (level : Bool) (width : BitVec 16)
  | counterStart (counter : Fin 2) (force : Bool)
  | counterStop (counter : Fin 2)
  deriving DecidableEq, Repr

/-- A schedule entry (R66). `relative` is the anchor (RELATIVE, not ABSOLUTE) and `burst` the policy (BURST, not SKIP). The last
field is the model's own mark of R82's second case: the entry was armed or resumed with a RELATIVE interval of 0, and no
boundary has come since (log entry 31). -/
structure Entry where
  state : EntryState
  relative : Bool
  due : Stamp
  period : Option Span
  budget : Option (BitVec 16)
  burst : Bool
  backupEligible : Bool
  actions : List Action
  fires : BitVec 16
  missed : BitVec 16
  refused : BitVec 8
  lastFired : Option Stamp
  remaining : Option Stamp
  epochEnded : Bool
  clamped : Bool
  atOnce : Bool
  deriving DecidableEq, Repr

/-- A FREE entry: every field zero or absent (R66). -/
def Entry.free : Entry :=
  ⟨.free, false, 0, none, none, false, false, [], 0, 0, 0, none, none, false, false, false⟩

/-! ## Supervisor (R156) -/

/-- The supervisor's state (R156). -/
inductive WdState where
  | dormant | watching | warned | resetting | rearm | holding | suspended
  deriving DecidableEq, Repr

/-- The reason of a transition (R172). -/
inductive WdReason where
  | start | stop | feed | timeout | silence | early | token | grace | boot | pulseEnd | powerDown | powerUp | reset
  deriving DecidableEq, Repr

/-- The supervisor's state (R156). -/
structure Supervisor where
  state : WdState
  elapsed : BitVec 12
  silence : BitVec 8
  timer : BitVec 12
  token : BitVec 8
  goodRun : Nat
  hostResets : Nat
  deriving DecidableEq, Repr

/-! ## Journal (R93 to R106) -/

/-- The cause of a DEVICE_RESET record (R99). -/
inductive ResetCause where
  | powerOn | pin | request
  deriving DecidableEq, Repr

/-- The class of a record (R98). -/
inductive RecordClass where
  | general | system
  deriving DecidableEq, Repr

/-- The kind of a record with its payload (R98, R99). -/
inductive Body where
  | deviceReset (cause : ResetCause)
  | loss (general : BitVec 16) (system : BitVec 8)
  | watchdogStage (left entered : WdState) (reason : WdReason) (count : Nat)
  | powerDown
  | powerUp (seconds : BitVec 32)
  | clockFault
  | clockRestored (holdover : BitVec 32)
  | timeStep (old : Stamp)
  | senseEdge (line : Fin 8) (level : Bool) (filter : Byte) (capture : Capture) (value : BitVec 16)
  | senseSuppressed (line : Fin 8) (count : Nat)
  | scheduleFire (entry : Fin 32) (userTag : BitVec 16) (fires : BitVec 16)
  | counterExpiry (counter : Fin 2) (count : BitVec 16)
  | hostNote (bytes : BitVec 48)
  deriving DecidableEq, Repr

/-- The flags a producing block supplies with a record (R97). -/
structure RecordFlags where
  epoch : Bool
  suppressed : Bool
  refused : Bool
  late : Bool
  deriving DecidableEq, Repr

/-- No flag but the time flags. -/
def RecordFlags.none : RecordFlags := ⟨false, false, false, false⟩

/-- A journal record (R96, R97). `opened` is the OPEN flag, which only the open LOSS record carries. -/
structure Record where
  seq : BitVec 16
  body : Body
  stamp : Stamp
  untimed : Bool
  holdover : Bool
  flags : RecordFlags
  opened : Bool
  deriving DecidableEq, Repr

/-- The event journal (R93 to R95): the records in append order, the cursor as a position in the list (the length of the
list is the tail), and the next sequence number. -/
structure Journal where
  records : List Record
  cursor : Nat
  nextSeq : BitVec 16
  deriving DecidableEq, Repr

/-! ## Sense lines (R116), counters (R131), output lines (R144) -/

/-- A sense line (R116). `lastEdge` is the mode at last boundary (EDGE, not OFF). -/
structure SenseLine where
  raw : Bool
  filtered : Bool
  candidate : Option Bool
  stable : Nat
  restart : Bool
  windowEvents : Nat
  windowSuppressed : Nat
  lastEdge : Bool
  deriving DecidableEq, Repr

/-- An interval counter (R131). The latch is held as the number it is written as, 0000H standing for 65536. -/
structure Counter where
  running : Bool
  value : Nat
  latch : BitVec 16
  expiries : BitVec 16
  deriving DecidableEq, Repr

/-- The owner of an output line (R144). -/
inductive Owner where
  | host | schedule | counter0 | counter1
  deriving DecidableEq, Repr

/-- A pending pulse: the ticks that remain and the level it returns to (R144). -/
structure Pulse where
  remaining : BitVec 16
  revert : Bool
  deriving DecidableEq, Repr

/-- An output line (R144). -/
structure OutLine where
  owner : Owner
  level : Bool
  pulse : Option Pulse
  fresh : Bool
  forced : Bool
  deriving DecidableEq, Repr

/-! ## Notification (R174) -/

/-- The twelve causes (R174). -/
inductive Cause where
  | journalLevel | journalLoss | schedule | counter0 | counter1 | sense | watchdog | clockSource | timeStep | power
  | linkError | deviceReset
  deriving DecidableEq, Repr

/-- The notification block (R174, R176): bit n of each mask is cause n; `nint` is set while the pin is asserted. The
counts of the two level causes stay 0. -/
structure Notification where
  pending : BitVec 12
  enabled : BitVec 12
  counts : Vector Byte 12
  nint : Bool
  deriving DecidableEq, Repr

/-! ## Operating-state control (R182) -/

/-- The operating state (R182), with the two conditions in which the part has none: power-on hold (R188) and no supply
(R184). -/
inductive OpState where
  | active | held | backup | powerOnHold | unpowered
  deriving DecidableEq, Repr

/-- The readings of nRST (R183), true for high. -/
structure NrstReadings where
  last : Bool
  cycles : Nat
  recognised : Bool
  deriving DecidableEq, Repr

/-- The set of engaged locks (R39). -/
structure Locks where
  clock : Bool
  supervisor : Bool
  outputs : Bool
  deriving DecidableEq, Repr

/-- The operating-state control (R182). -/
structure Control where
  op : OpState
  holdMark : Bool
  restoreCount : Nat
  backupStart : BitVec 32
  nrst : NrstReadings
  locks : Locks
  deriving DecidableEq, Repr

/-- What one step of a boundary hands to a later step of the same boundary: the sense lines that gave a source event at
step (c) (R125) and whether C0 expired at step (d) (R132). The model's own field (log entry 27). -/
structure Signals where
  edges : BitVec 8
  c0Expired : Bool
  deriving DecidableEq, Repr

/-! ## The whole state -/

/-- The state of the AVN-340. The last two fields are the model's own: which free inputs the part's own running reads next
(log entry 3) and the commands that are waiting, first in first out (log entry 1). -/
structure State where
  link : Link
  time : Timebase
  sched : Vector Entry 32
  journal : Journal
  sense : Vector SenseLine 8
  counters : Vector Counter 2
  outputs : Vector OutLine 6
  wd : Supervisor
  notify : Notification
  settings : Settings
  control : Control
  signals : Signals
  freeIndex : Nat
  pending : List Instr
  deriving DecidableEq, Repr

/-! ### One update for each field; Laws/State.lean says what each does to every field -/

/-- The state with another `link`. -/
def State.setLink (s : State) (x : Link) : State := { s with link := x }

/-- The state with another `time`. -/
def State.setTime (s : State) (x : Timebase) : State := { s with time := x }

/-- The state with another `sched`. -/
def State.setSched (s : State) (x : Vector Entry 32) : State := { s with sched := x }

/-- The state with another `journal`. -/
def State.setJournal (s : State) (x : Journal) : State := { s with journal := x }

/-- The state with another `sense`. -/
def State.setSense (s : State) (x : Vector SenseLine 8) : State := { s with sense := x }

/-- The state with another `counters`. -/
def State.setCounters (s : State) (x : Vector Counter 2) : State := { s with counters := x }

/-- The state with another `outputs`. -/
def State.setOutputs (s : State) (x : Vector OutLine 6) : State := { s with outputs := x }

/-- The state with another `wd`. -/
def State.setWd (s : State) (x : Supervisor) : State := { s with wd := x }

/-- The state with another `notify`. -/
def State.setNotify (s : State) (x : Notification) : State := { s with notify := x }

/-- The state with another `settings`. -/
def State.setSettings (s : State) (x : Settings) : State := { s with settings := x }

/-- The state with another `control`. -/
def State.setControl (s : State) (x : Control) : State := { s with control := x }

/-- The state with another `signals`. -/
def State.setSignals (s : State) (x : Signals) : State := { s with signals := x }

/-- The state with another `freeIndex`. -/
def State.setFreeIndex (s : State) (x : Nat) : State := { s with freeIndex := x }

/-- The state with another `pending`. -/
def State.setPending (s : State) (x : List Instr) : State := { s with pending := x }

/-! ## Power-on values (R188 step 1) -/

/-- The link after a power-on reset (R25), apart from the transaction state. -/
def Link.powerOn (txn : Transaction) : Link :=
  ⟨txn, [], .clear, none, .none, 0, false, 0, [], []⟩

/-- The timebase after a power-on reset (R65). -/
def Timebase.powerOn : Timebase :=
  ⟨.notGood 0, none, 0, .rcStartup, 0, 0, 0, false, false, 0, false, 0⟩

/-- The journal before its first record (R115). -/
def Journal.empty : Journal := ⟨[], 0, 0⟩

/-- A sense line after a power-on reset (R130). -/
def SenseLine.powerOn : SenseLine := ⟨false, false, none, 0, true, 0, 0, false⟩

/-- A counter after a power-on reset, a pin reset or a FULL reset (R143): STOPPED, empty, latch 1024. -/
def Counter.cleared : Counter := ⟨false, 0, 1024, 0⟩

/-- An output line after a power-on reset (R155). -/
def OutLine.powerOn : OutLine := ⟨.host, false, none, false, false⟩

/-- The supervisor after a power-on reset (R173). -/
def Supervisor.powerOn : Supervisor := ⟨.dormant, 0, 0, 0, 0, 0, 0⟩

/-- The notification block cleared (R181): every flag clear, every count 0, nINT released. -/
def Notification.clear : Notification := ⟨0, 0, Vector.replicate 12 0, false⟩

/-- No lock engaged (R182). -/
def Locks.released : Locks := ⟨false, false, false⟩

/-- No source event and no expiry handed on. -/
def Signals.none : Signals := ⟨0, false⟩

/-- Every block at its power-on values, before the POWER_ON record (R188 step 1): what `POWER_LOSS` leaves and
`POWER_ON_RESET` starts from. -/
def State.powerOnValues (txn : Transaction) (op : OpState) (nrst : NrstReadings) (freeIndex : Nat)
    (pending : List Instr) : State where
  link := .powerOn txn
  time := .powerOn
  sched := Vector.replicate 32 .free
  journal := .empty
  sense := Vector.replicate 8 .powerOn
  counters := Vector.replicate 2 .cleared
  outputs := Vector.replicate 6 .powerOn
  wd := .powerOn
  notify := .clear
  settings := .default
  control := ⟨op, false, 0, 0, nrst, .released⟩
  signals := .none
  freeIndex := freeIndex
  pending := pending

/-- The DEVICE_RESET record with cause POWER_ON (R115): sequence 0, stamped 0.0, UNTIMED and HOLDOVER. -/
def Record.firstPowerOn : Record :=
  ⟨0, .deviceReset .powerOn, 0, true, true, .none, false⟩

/-- The state right after a power-on reset (R188, tables of R25, R41, R65, R92, R115, R130, R143, R155, R173, R181, R182),
with nRST recognised high and nCS high (log entry 19): ACTIVE, the POWER_ON record in the journal, CLOCK_SOURCE pending
and every enable clear, and no command waiting. -/
def State.reset : State :=
  { State.powerOnValues .idle .active ⟨true, 0, true⟩ 0 [] with
    journal := ⟨[.firstPowerOn], 0, 1⟩
    notify := { Notification.clear with pending := 0x080 } }

end Sys2Proof.Machine
end

