-- ==== Sys2Proof/Machine/Operands.lean ====
section
/-! DEFINITION. The wire formats: bytes and fields, CRC-8, the catalogue of request kinds, the codes, the actions of a
schedule entry and the 16-byte record. -/

namespace Sys2Proof.Machine

/-! ## Bytes and fields, big-endian (R32) -/

/-- A bit as a byte. -/
def bit (b : Bool) : Byte := if b then 1 else 0

/-- The low byte of a number. -/
def byteOf (n : Nat) : Byte := BitVec.ofNat 8 n

/-- The two bytes of a 16-bit field. -/
def be16 (v : BitVec 16) : List Byte := [v.extractLsb' 8 8, v.extractLsb' 0 8]

/-- The two bytes of a number in a 16-bit field. -/
def be16n (n : Nat) : List Byte := be16 (BitVec.ofNat 16 n)

/-- The three bytes of a 24-bit field. -/
def be24 (v : BitVec 24) : List Byte := [v.extractLsb' 16 8, v.extractLsb' 8 8, v.extractLsb' 0 8]

/-- The four bytes of a 32-bit field. -/
def be32 (v : BitVec 32) : List Byte := be16 (v.extractLsb' 16 16) ++ be16 (v.extractLsb' 0 16)

/-- The six bytes of a 48-bit field. -/
def be48 (v : BitVec 48) : List Byte := be16 (v.extractLsb' 32 16) ++ be32 (v.extractLsb' 0 32)

/-- The byte of a payload at a position. The link lets no shorter payload through (R10); past its end it reads 00H
(log entry 24). -/
def byteAt (p : List Byte) (i : Nat) : Byte := p.getD i 0

/-- The 16-bit field of a payload at a position. -/
def u16At (p : List Byte) (i : Nat) : BitVec 16 := byteAt p i ++ byteAt p (i + 1)

/-- The 24-bit field of a payload at a position. -/
def u24At (p : List Byte) (i : Nat) : BitVec 24 := byteAt p i ++ u16At p (i + 1)

/-- The 32-bit field of a payload at a position. -/
def u32At (p : List Byte) (i : Nat) : BitVec 32 := u16At p i ++ u16At p (i + 2)

/-- The 48-bit field of a payload at a position. -/
def u48At (p : List Byte) (i : Nat) : BitVec 48 := u16At p i ++ u32At p (i + 2)

/-- The number `k` as one of `n`, when it is below `n`. -/
def finOf (n k : Nat) : Option (Fin n) := if h : k < n then some ⟨k, h⟩ else none

/-- A count that saturates at the largest value of its width (00_scope.md, Conventions). -/
def satAdd {w : Nat} (x : BitVec w) (n : Nat) : BitVec w := BitVec.ofNat w (min (2 ^ w - 1) (x.toNat + n))

/-! ## Stamps (00_scope.md, Conventions; R53) -/

/-- The seconds part of a stamp. -/
def Stamp.seconds (t : Stamp) : BitVec 32 := BitVec.extractLsb' 10 32 t

/-- The ticks part of a stamp, 0 to 1023. -/
def Stamp.ticks (t : Stamp) : BitVec 10 := BitVec.extractLsb' 0 10 t

/-- The stamp of a seconds and a ticks part; only the low ten bits of the ticks field count, the others having been
checked to be 0. -/
def Stamp.of (seconds : BitVec 32) (ticks : BitVec 16) : Stamp := seconds ++ ticks.setWidth 10

/-- The six bytes of a stamp: seconds (4), ticks (2). -/
def Stamp.bytes (t : Stamp) : List Byte := be32 (Stamp.seconds t) ++ be16 ((Stamp.ticks t).setWidth 16)

/-- The six bytes of an optional stamp, zero if absent (R78). -/
def optStampBytes (t : Option Stamp) : List Byte := Stamp.bytes (t.getD 0)

/-- The stamp whose count of ticks is the given integer, held between 0.0 and the epoch end (R60). -/
def clampStamp (n : Int) : Stamp :=
  if n < 0 then 0 else if epochEndStamp.toNat < n.toNat then epochEndStamp else BitVec.ofNat 42 n.toNat

/-- A count of ticks lies beyond the epoch end. -/
def beyondEnd (n : Nat) : Bool := decide (epochEndStamp.toNat < n)

/-! ## CRC-8 (R8) -/

/-- One shift of the CRC register: left by one, with 07H exclusive-ORed in if the bit shifted out was 1. -/
def crcShift (r : Byte) : Byte := if r.msb then (r <<< 1) ^^^ 0x07 else r <<< 1

/-- The CRC register after one byte: the byte exclusive-ORed in, then eight shifts. -/
def crcByte (r b : Byte) : Byte :=
  crcShift (crcShift (crcShift (crcShift (crcShift (crcShift (crcShift (crcShift (r ^^^ b))))))))

/-- The CRC-8 of a run of bytes, from FFH. -/
def crc8 (bytes : List Byte) : Byte := bytes.foldl crcByte 0xFF

/-! ## The catalogue of request kinds (R33) -/

/-- The request that a kind code and a payload length select: absent for an unknown code or a length the code does not
permit. The codes 21H, 41H and 91H carry two requests each, told apart by the length (R32). -/
def kindOf (code : Byte) (len : Nat) : Option Kind :=
  match code.toNat with
  | 0x00 => if len = 0 then some .poll else none
  | 0x10 => if len = 0 then some .deviceInfo else none
  | 0x11 => if len = 1 then some .deviceReset else none
  | 0x12 => if len = 2 then some .settingRead else none
  | 0x13 => if 2 ≤ len ∧ len ≤ 17 then some .settingWrite else none
  | 0x14 => if len = 1 then some .lock else none
  | 0x15 => if len = 0 then some .linkStats else none
  | 0x20 => if len = 0 then some .timeRead else none
  | 0x21 => if len = 6 then some .timeSet else if len = 2 then some .timeSlew else none
  | 0x30 => if 13 ≤ len ∧ len ≤ 32 then some .schedArm else none
  | 0x31 => if len = 1 then some .schedPause else none
  | 0x32 => if len = 1 then some .schedResume else none
  | 0x33 => if len = 1 then some .schedCancel else none
  | 0x34 => if len = 1 then some .schedRead else none
  | 0x35 => if len = 0 then some .schedSummary else none
  | 0x40 => if len = 1 then some .journalPull else none
  | 0x41 => if len = 2 then some .journalAck else if len = 0 then some .journalRewind else none
  | 0x42 => if len = 6 then some .journalNote else none
  | 0x43 => if len = 0 then some .journalStatus else none
  | 0x50 => if len = 0 then some .senseRead else none
  | 0x60 => if len = 2 then some .counterControl else none
  | 0x61 => if len = 3 then some .counterLatch else none
  | 0x62 => if len = 0 then some .counterRead else none
  | 0x70 => if len = 2 then some .outputWrite else none
  | 0x71 => if len = 4 then some .outputPulse else none
  | 0x72 => if len = 2 then some .outputClaim else none
  | 0x73 => if len = 0 then some .outputRead else none
  | 0x80 => if len = 0 then some .wdStart else none
  | 0x81 => if len = 1 then some .wdFeed else none
  | 0x82 => if len = 0 then some .wdStop else none
  | 0x83 => if len = 0 then some .wdStatus else none
  | 0x90 => if len = 3 then some .notifyEnable else none
  | 0x91 =>
    if len = 0 then some .notifyRead
    else if len % 2 = 0 ∧ len ≤ 24 then some .notifyAck else none
  | _ => none

/-! ## Codes -/

/-- The code of a result (R29). -/
def Result.code : Result → BitVec 4
  | .ok => 0 | .range => 1 | .state => 2 | .locked => 3 | .timeInvalid => 4 | .notOwner => 5 | .safeHold => 6
  | .feedFault => 7

/-- The code of a verdict (R11). -/
def Verdict.code : Verdict → BitVec 4
  | .none => 0 | .accepted => 1 | .poll => 2 | .duplicate => 3 | .queueFull => 4 | .crcFail => 5 | .malformed => 6
  | .short => 7

/-- The code of a supervisor state (R156). -/
def WdState.code : WdState → Byte
  | .dormant => 0 | .watching => 1 | .warned => 2 | .resetting => 3 | .rearm => 4 | .holding => 5 | .suspended => 6

/-- The code of a transition's reason (R172). -/
def WdReason.code : WdReason → Byte
  | .start => 0x00 | .stop => 0x01 | .feed => 0x02 | .timeout => 0x03 | .silence => 0x04 | .early => 0x05
  | .token => 0x06 | .grace => 0x07 | .boot => 0x08 | .pulseEnd => 0x09 | .powerDown => 0x0A | .powerUp => 0x0B
  | .reset => 0x0C

/-- The code of an entry's state (R78). -/
def EntryState.code : EntryState → Byte
  | .free => 0 | .armed => 1 | .paused => 2 | .spent => 3

/-- The code of an owner (R146). -/
def Owner.code : Owner → Byte
  | .host => 0 | .schedule => 1 | .counter0 => 2 | .counter1 => 3

/-- The owner a code names, absent above 03H (R146). -/
def Owner.ofCode (b : Byte) : Option Owner :=
  match b.toNat with
  | 0 => some .host
  | 1 => some .schedule
  | 2 => some .counter0
  | 3 => some .counter1
  | _ => none

/-- The owner that counter `n` is (R134). -/
def Owner.ofCounter (n : Fin 2) : Owner := if n = 0 then .counter0 else .counter1

/-- The code of a clock source (R57). -/
def ClockSource.code : ClockSource → Byte
  | .rcStartup => 0 | .xtal => 1 | .holdover => 2

/-- The code of a reset's cause (R99). -/
def ResetCause.code : ResetCause → Byte
  | .powerOn => 0 | .pin => 1 | .request => 2

/-- The code of a capture source (R99, R122). -/
def Capture.code : Capture → Byte
  | .none => 0 | .c0 => 1 | .c1 => 2

/-- The number of a cause, its bit in every mask (R174). -/
def Cause.num : Cause → Fin 12
  | .journalLevel => 0 | .journalLoss => 1 | .schedule => 2 | .counter0 => 3 | .counter1 => 4 | .sense => 5
  | .watchdog => 6 | .clockSource => 7 | .timeStep => 8 | .power => 9 | .linkError => 10 | .deviceReset => 11

/-- A cause that is a level cause (R174). -/
def isLevelCause (n : Nat) : Bool := n == 0 || n == 7

/-- The set of engaged locks as a byte (R39). -/
def Locks.byte (l : Locks) : Byte := bit l.clock ||| (bit l.supervisor <<< 1) ||| (bit l.outputs <<< 2)

/-! ## Counter values (R131, R138) -/

/-- The value a latch stands for: 65536 for 0000H, otherwise the number itself. -/
def latchValue (l : BitVec 16) : Nat := if l = 0 then 65536 else l.toNat

/-- The 16-bit form of a counter's value: 0000H for 65536 (and for 0). -/
def form16 (v : Nat) : BitVec 16 := BitVec.ofNat 16 v

/-- The status byte of a counter (R138): bit 0 RUNNING, bit 1 the value is 65536. -/
def Counter.status (c : Counter) : Byte := bit c.running ||| (bit (c.value == 65536) <<< 1)

/-! ## The actions of a schedule entry (R68) -/

/-- The action of four bytes, absent if they fail the check of R68. -/
def decodeAction (b0 b1 b2 b3 : Byte) : Option Action :=
  match b0.toNat with
  | 0x01 => if b3 = 0 then some (.journal (b1 ++ b2)) else none
  | 0x02 => if b1 = 0 ∧ b2 = 0 ∧ b3 = 0 then some .notify else none
  | 0x03 =>
    match finOf 6 b1.toNat with
    | some line => if b2.toNat ≤ 1 ∧ b3 = 0 then some (.outputLevel line (b2 == 1)) else none
    | none => none
  | 0x04 =>
    match finOf 6 (b1.extractLsb' 0 4).toNat with
    | some line =>
      if b1.extractLsb' 5 3 = 0 ∧ b2 ++ b3 ≠ (0 : BitVec 16) then some (.outputPulse line (b1.getLsbD 4) (b2 ++ b3))
      else none
    | none => none
  | 0x05 =>
    match finOf 2 b1.toNat with
    | some counter => if b2.toNat ≤ 1 ∧ b3 = 0 then some (.counterStart counter (b2 == 1)) else none
    | none => none
  | 0x06 =>
    match finOf 2 b1.toNat with
    | some counter => if b2 = 0 ∧ b3 = 0 then some (.counterStop counter) else none
    | none => none
  | _ => none

/-- The four bytes of an action (R68). -/
def Action.encode : Action → List Byte
  | .journal t => 0x01 :: be16 t ++ [0]
  | .notify => [0x02, 0, 0, 0]
  | .outputLevel line level => [0x03, byteOf line.val, bit level, 0]
  | .outputPulse line level width => 0x04 :: (byteOf line.val ||| (bit level <<< 4)) :: be16 width
  | .counterStart counter force => [0x05, byteOf counter.val, bit force, 0]
  | .counterStop counter => [0x06, byteOf counter.val, 0, 0]

/-- The actions of a run of bytes, four each; absent if one fails its check or bytes are left over. -/
def decodeActions : List Byte → Option (List Action)
  | [] => some []
  | b0 :: b1 :: b2 :: b3 :: rest =>
    match decodeAction b0 b1 b2 b3, decodeActions rest with
    | some a, some as => some (a :: as)
    | _, _ => none
  | _ => none

/-! ## Journal records (R96 to R99) -/

/-- The kind code of a record (R98). -/
def Body.kindCode : Body → Byte
  | .deviceReset _ => 0x01 | .loss _ _ => 0x02 | .watchdogStage _ _ _ _ => 0x03 | .powerDown => 0x04
  | .powerUp _ => 0x05 | .clockFault => 0x06 | .clockRestored _ => 0x07 | .timeStep _ => 0x08
  | .senseEdge _ _ _ _ _ => 0x10 | .senseSuppressed _ _ => 0x11 | .scheduleFire _ _ _ => 0x12
  | .counterExpiry _ _ => 0x13 | .hostNote _ => 0x14

/-- The class of a record (R98). -/
def Body.recordClass : Body → RecordClass
  | .senseEdge _ _ _ _ _ => .general
  | .senseSuppressed _ _ => .general
  | .scheduleFire _ _ _ => .general
  | .counterExpiry _ _ => .general
  | .hostNote _ => .general
  | _ => .system

/-- The class of a record (R98). -/
def Record.recordClass (r : Record) : RecordClass := r.body.recordClass

/-- The six payload bytes of a record; bytes the kind does not use are 00H (R99). -/
def Body.payload : Body → List Byte
  | .deviceReset cause => [cause.code, 0, 0, 0, 0, 0]
  | .loss general system => be16 general ++ [system, 0, 0, 0]
  | .watchdogStage left entered reason count => [left.code, entered.code, reason.code, byteOf count, 0, 0]
  | .powerDown => [0, 0, 0, 0, 0, 0]
  | .powerUp seconds => be32 seconds ++ [0, 0]
  | .clockFault => [0, 0, 0, 0, 0, 0]
  | .clockRestored holdover => be32 holdover ++ [0, 0]
  | .timeStep old => Stamp.bytes old
  | .senseEdge line level filter capture value =>
    [byteOf line.val, bit level, filter, capture.code] ++ be16 value
  | .senseSuppressed line count => byteOf line.val :: be16n count ++ [0, 0, 0]
  | .scheduleFire entry userTag fires => byteOf entry.val :: be16 userTag ++ be16 fires ++ [0]
  | .counterExpiry counter count => byteOf counter.val :: be16 count ++ [0, 0, 0]
  | .hostNote bytes => be48 bytes

/-- The flags byte of a record (R97). -/
def Record.flagsByte (r : Record) : Byte :=
  (bit r.flags.epoch <<< 6) ||| (bit r.opened <<< 5) ||| (bit r.flags.suppressed <<< 4) |||
  (bit r.flags.refused <<< 3) ||| (bit r.flags.late <<< 2) ||| (bit r.holdover <<< 1) ||| bit r.untimed

/-- The 16 bytes of a record (R96). -/
def Record.encode (r : Record) : List Byte :=
  be16 r.seq ++ [r.body.kindCode, r.flagsByte] ++ Stamp.bytes r.stamp ++ r.body.payload

end Sys2Proof.Machine
end

