-- ==== Sys2Proof/Machine/Flags.lean ====
section
/-! DEFINITION. The flags of the part: pending and enable flags of the notification block and nINT (R174 to R176), the link
status byte (R6), and the levels of the output pins (R145, R168). -/

namespace Sys2Proof.Machine

/-! ## Reading the journal's flags (R95, R112) -/

/-- The undelivered count: the records from the cursor to the tail (R95). -/
def Journal.undelivered (j : Journal) : Nat := j.records.length - j.cursor

/-! ## Occurrences, level causes and nINT (R174 to R176) -/

/-- Raises `n` occurrences of a cause (R175): each adds one to its wrapping count and sets its pending flag. -/
def Notification.raise (q : Notification) (c : Cause) (n : Nat) : Notification :=
  if n = 0 then q
  else
    { q with
      pending := q.pending ||| BitVec.twoPow 12 c.num.val
      counts := q.counts.set c.num.val (q.counts[c.num.val] + BitVec.ofNat 8 n) }

/-- Raises one occurrence of a cause (R175). nINT is not recomputed. -/
def State.raise (s : State) (c : Cause) : State := s.setNotify (s.notify.raise c 1)

/-- The JOURNAL_LEVEL condition: the undelivered count is at or above JNL_THRESHOLD (R112). -/
def State.journalLevel (s : State) : Bool := decide (s.settings.threshold ≤ s.journal.undelivered)

/-- The boundaries come from the RC oscillator: the CLOCK_SOURCE condition, the HOLDOVER flag of a record and the
CLOCK_HOLDOVER bit (R55, R64). -/
def Timebase.onRc (t : Timebase) : Bool := t.source != .xtal

/-- A mask with the bit of a cause set to a value, the others as they were. -/
def maskWith (m : BitVec 12) (c : Cause) (b : Bool) : BitVec 12 :=
  if b then m ||| BitVec.twoPow 12 c.num.val else m &&& ~~~(BitVec.twoPow 12 c.num.val)

/-- Re-evaluates the level causes and recomputes nINT (R176): asserted in ACTIVE when a cause is pending and enabled,
released otherwise (R180, R188). -/
def State.recompute (s : State) : State :=
  let pending := maskWith (maskWith s.notify.pending .journalLevel s.journalLevel) .clockSource s.time.onRc
  s.setNotify { s.notify with
    pending := pending
    nint := s.control.op == .active && (pending &&& s.notify.enabled) != 0 }

/-! ## The link status byte (R6) -/

/-- The supervisor asks for attention: it is in WARNED or REARM (R6, R172). -/
def Supervisor.attention (w : Supervisor) : Bool := w.state == .warned || w.state == .rearm

/-- The link status byte, each bit its condition at the moment (R6). -/
def State.statusByte (s : State) : Byte :=
  (bit s.link.epoch <<< 7) ||| (bit s.notify.nint <<< 6) ||| (bit (decide (2 ≤ s.link.responses.length)) <<< 5) |||
  (bit (decide (Config.queueCapacity ≤ s.link.requests.length)) <<< 4) ||| (bit s.wd.attention <<< 3) |||
  (bit (!s.time.valid) <<< 2) ||| (bit s.time.onRc <<< 1) ||| bit (s.journal.undelivered != 0)

/-! ## Pins (11_operating_states_supplies_and_resets.md, 11.8) -/

/-- What an output pin shows. -/
inductive PinState where
  | highZ | low | high
  deriving DecidableEq, Repr

/-- The code of a pin state in OUTPUT_READ (R153). -/
def PinState.code : PinState → Byte
  | .highZ => 0 | .low => 1 | .high => 2

/-- A line's pin through its drive (R145, rows after the first). -/
def drivenPin (d : Drive) (level : Bool) : PinState :=
  match d, level with
  | .off, _ => .highZ
  | .pushPull, false => .low
  | .pushPull, true => .high
  | .openDrain, false => .low
  | .openDrain, true => .highZ

/-- The pin of output line `n` (R145); high-impedance in power-on hold too (R188), and without a supply (log entry 28). -/
def State.outPin (s : State) (n : Fin 6) : PinState :=
  if s.control.op = .active ∨ s.control.op = .held then drivenPin (s.settings.outDrive n) s.outputs[n].level else .highZ

/-- The pin HRST (R168, R188): high holds the host in reset. Without a supply nothing drives it (log entry 28). -/
def State.hrst (s : State) : PinState :=
  if s.control.op = .unpowered then .highZ
  else if (s.wd.state = .resetting ∧ s.control.op = .active) ∨ s.wd.state = .holding ∨ s.control.op = .backup ∨
      s.control.op = .powerOnHold then .high
  else .low

/-- The pin nINT, open-drain: low while asserted (R176). -/
def State.nintPin (s : State) : PinState := if s.notify.nint then .low else .highZ

/-- The byte SDO sends as up-frame byte `i` of the transaction in progress, absent while SDO is high-impedance (R1, R3);
every byte after the CRC-8 reads 00H (R5). -/
def State.sdoByte (s : State) (i : Nat) : Option Byte :=
  if s.link.txn = .receiving then some (s.link.image.getD i 0) else none

/-- The level SDO shows for bit `i` of the transaction in progress, 0 from the fall of nCS to the first falling edge of SCLK,
absent while SDO is high-impedance: the bits of each byte, the most significant first (R1). -/
def State.sdoBit (s : State) (i : Nat) : Option Bool := (s.sdoByte (i / 8)).map fun b => b.getLsbD (7 - i % 8)

end Sys2Proof.Machine
end

