-- ==== Sys2Proof/Machine/Ops.lean ====
section
/-! DEFINITION. The named operations the commands share: the journal's append, the link flush, the lines and counters, the
supervisor's transitions, the changes of operating state and the resets, and the executor's performing of one request. -/

namespace Sys2Proof.Machine

/-! ## The journal (R93 to R106) -/

/-- The stamp and the time flags that a record takes at the moment it is made (R55). -/
structure TimeMark where
  stamp : Stamp
  untimed : Bool
  holdover : Bool
  deriving DecidableEq, Repr

/-- The stamp and time flags of a record made now (R55). -/
def Timebase.mark (t : Timebase) : TimeMark := ⟨t.clock, !t.valid, t.onRc⟩

/-- A class's used count (R93). -/
def Journal.used (j : Journal) (c : RecordClass) : Nat := j.records.countP fun r => r.recordClass == c

/-- A class's quota (R93). -/
def RecordClass.quota : RecordClass → Nat
  | .general => Config.generalQuota
  | .system => Config.systemQuota

/-- The class is full (R93). -/
def Journal.full (j : Journal) (c : RecordClass) : Bool := decide (c.quota ≤ j.used c)

/-- A LOSS record is open (R101). -/
def Journal.hasOpen (j : Journal) : Bool := j.records.any fun r => r.opened

/-- Takes the record at a position out of the list; the cursor goes on marking the record it marked, or, if that is the
one removed, the record that followed it (R95). -/
def Journal.removeAt (j : Journal) (i : Nat) : Journal :=
  { j with records := j.records.eraseIdx i, cursor := if i < j.cursor then j.cursor - 1 else j.cursor }

/-- The position of the oldest record of a class other than the open LOSS record (R102, R103). -/
def Journal.oldest (j : Journal) (c : RecordClass) : Option Nat :=
  j.records.findIdx? fun r => r.recordClass == c && !r.opened

/-- Places a record at the tail with the next sequence number, which then advances (R94, R100). -/
def Journal.put (j : Journal) (r : Record) : Journal :=
  { j with records := j.records ++ [{ r with seq := j.nextSeq }], nextSeq := j.nextSeq + 1 }

/-- A LOSS payload with one more loss of a class, each count saturating (R101). -/
def Body.addLoss : Body → RecordClass → Body
  | .loss general system, .general => .loss (satAdd general 1) system
  | .loss general system, .system => .loss general (satAdd system 1)
  | other, _ => other

/-- Counts one loss in the open LOSS record, in place (R101). -/
def Journal.bumpLoss (j : Journal) (c : RecordClass) : Journal :=
  { j with records := j.records.map fun r => if r.opened then { r with body := r.body.addLoss c } else r }

/-- A journal with the number of records lost so far in the append at work: each loss raises one JOURNAL_LOSS (R101). -/
structure Tally where
  journal : Journal
  losses : Nat
  deriving DecidableEq, Repr

/-- A new open LOSS record, holding as its first loss the system record it evicted, if it evicted one (R101). -/
def lossRecord (m : TimeMark) (evicted : Bool) : Record :=
  ⟨0, .loss 0 (bit evicted), m.stamp, m.untimed, m.holdover, .none, true⟩

/-- Opens a LOSS record at the tail; if the system class is full, its oldest record is evicted first (R101). -/
def Tally.openLoss (m : TimeMark) (x : Tally) : Tally :=
  match x.journal.full .system, x.journal.oldest .system with
  | true, some i => ⟨(x.journal.removeAt i).put (lossRecord m true), x.losses + 1⟩
  | _, _ => ⟨x.journal.put (lossRecord m false), x.losses⟩

/-- Counts one lost record of a class, opening a LOSS record if none is open (R101). -/
def Tally.lose (m : TimeMark) (x : Tally) (c : RecordClass) : Tally :=
  let y := if x.journal.hasOpen then x else x.openLoss m
  ⟨y.journal.bumpLoss c, y.losses + 1⟩

/-- One aging check after another until the head is not aged (R106): an aged head is evicted and counted as lost, or, if it
is the open LOSS record, renewed at the tail. Every round removes or renews the head and at most one LOSS record is opened,
so as many rounds as the list has records, and three more, are always enough. -/
def Tally.age (m : TimeMark) : Nat → Tally → Tally
  | 0, x => x
  | fuel + 1, x =>
    match x.journal.records with
    | [] => x
    | r :: _ =>
      if r.seq = x.journal.nextSeq - 32768 then
        if r.opened then Tally.age m fuel ⟨(x.journal.removeAt 0).put r, x.losses⟩
        else Tally.age m fuel (Tally.lose m ⟨x.journal.removeAt 0, x.losses⟩ r.recordClass)
      else x

/-- The aging check of R106, made after every assignment of a sequence number. -/
def Tally.agingCheck (m : TimeMark) (x : Tally) : Tally := Tally.age m (x.journal.records.length + 3) x

/-- What an append leaves: the journal, the losses it caused and the sequence number the record took, none if it was
discarded (R102). -/
structure Appended where
  journal : Journal
  losses : Nat
  seq : Option (BitVec 16)
  deriving DecidableEq, Repr

/-- Appends a record at the tail, with the aging check that follows (R104 step 4). -/
def Tally.keep (m : TimeMark) (x : Tally) (r : Record) : Appended :=
  let y := Tally.agingCheck m ⟨x.journal.put r, x.losses⟩
  ⟨y.journal, y.losses, some x.journal.nextSeq⟩

/-- One append, in the order of R104. -/
def Journal.append (keepNewest : Bool) (m : TimeMark) (body : Body) (flags : RecordFlags) (j : Journal) : Appended :=
  let c := body.recordClass
  let r : Record := ⟨0, body, m.stamp, m.untimed, m.holdover, flags, false⟩
  let x : Tally := ⟨j, 0⟩
  -- steps 1 and 2
  let x := if x.journal.full c && !x.journal.hasOpen then Tally.agingCheck m (x.openLoss m) else x
  -- steps 3 and 4
  if x.journal.full c then
    if c == .general && !keepNewest then
      let y := x.lose m .general
      ⟨y.journal, y.losses, none⟩
    else
      match x.journal.oldest c with
      | some i => Tally.keep m (Tally.lose m ⟨x.journal.removeAt i, x.losses⟩ c) r
      | none => x.keep m r
  else x.keep m r

/-- The append of a record made now, under the policy in force (R113), with a JOURNAL_LOSS occurrence for every record
lost (R101); what became of the record beside it. -/
def State.appendInfo (s : State) (body : Body) (flags : RecordFlags) : State × Appended :=
  let a := s.journal.append s.settings.keepNewest s.time.mark body flags
  ((s.setJournal a.journal).setNotify (s.notify.raise .journalLoss a.losses), a)

/-- The append of a record made now (R100 to R104). -/
def State.append (s : State) (body : Body) (flags : RecordFlags) : State := (s.appendInfo body flags).1

/-- The append of a record that carries no flag but the time flags. -/
def State.record (s : State) (body : Body) : State := s.append body .none

/-! ## The link flush (R22, R23) -/

/-- A link flush (R22): both queues, the last accepted tag and the pending verdict are emptied, a transaction in progress is
abandoned and LINK_EPOCH toggles. The error counter is not touched. -/
def Link.flush (l : Link) : Link :=
  { l with
    requests := []
    responses := []
    lastTag := none
    verdict := .none
    verdictTag := 0
    txn := if l.txn = .receiving then .discarding else l.txn
    epoch := !l.epoch }

/-- A link flush (R22). -/
def State.flush (s : State) : State := s.setLink s.link.flush

/-! ## Output lines (R144 to R151) -/

/-- Sets the level and cancels any pending pulse (R147). -/
def OutLine.write (l : OutLine) (level : Bool) : OutLine := { l with level := level, pulse := none }

/-- Starts a pulse, or retriggers the pending one, which keeps its revert level (R148). -/
def OutLine.startPulse (l : OutLine) (level : Bool) (width : BitVec 16) : OutLine :=
  { l with level := level, pulse := some ⟨width, match l.pulse with | some p => p.revert | none => l.level⟩ }

/-- A counter's TOGGLE: the level is inverted and a pending pulse cancelled (R134). -/
def OutLine.toggle (l : OutLine) : OutLine := l.write (!l.level)

/-- A counter's PULSE of one tick: to the opposite level, or a retrigger that keeps the pulse level and the revert level;
the fresh mark is set (R134, R149). -/
def OutLine.counterPulse (l : OutLine) : OutLine :=
  match l.pulse with
  | none => { l with level := !l.level, pulse := some ⟨1, l.level⟩, fresh := true }
  | some p => { l with pulse := some ⟨1, p.revert⟩, fresh := true }

/-- The revert of a pulse whose remaining count is 0 (R149). -/
def OutLine.revert (l : OutLine) : OutLine :=
  match l.pulse with
  | some p => if p.remaining = 0 then l.write p.revert else l
  | none => l

/-- The count of a pending pulse (R149 step 2). -/
def OutLine.countDown (l : OutLine) : OutLine :=
  { l with pulse := l.pulse.map fun p => { p with remaining := p.remaining - 1 } }

/-- Step (e) on a line (R149): a fresh mark is cleared and the pulse not counted; otherwise the count, and the revert at 0. -/
def OutLine.deal (l : OutLine) : OutLine := if l.fresh then { l with fresh := false } else l.countDown.revert

/-- A line as forcing leaves it (R150): while a condition holds, at the safe level with no pulse; otherwise only the flag
is clear. A line that is already forced follows the safe level (R145). -/
def OutLine.follow (l : OutLine) (forced safe : Bool) : OutLine :=
  if forced then { l with level := safe, pulse := none, fresh := false, forced := true } else { l with forced := false }

/-- A forcing condition of R150 holds for line `n`. -/
def State.forcing (s : State) (n : Fin 6) : Bool :=
  s.wd.state == .holding || (s.wd.state == .resetting && s.settings.outEscalate n) || s.control.op == .held

/-- Brings every line in step with the forcing conditions, as the event in which they change does (R150). -/
def State.reforce (s : State) : State :=
  s.setOutputs (Vector.ofFn fun n => s.outputs[n].follow (s.forcing n) (s.settings.outSafe n))

/-- Changes one line. -/
def State.modLine (s : State) (n : Fin 6) (f : OutLine → OutLine) : State :=
  s.setOutputs (s.outputs.set n.val (f s.outputs[n]))

/-! ## Counters (R131, R136) -/

/-- Loads the value from the latch (R136). -/
def Counter.load (c : Counter) : Counter := { c with value := latchValue c.latch }

/-- START: a STOPPED counter becomes RUNNING, loaded first if it is empty; a RUNNING one is left as it is (R136). -/
def Counter.start (c : Counter) : Counter :=
  if c.running then c else { (if c.value = 0 then c.load else c) with running := true }

/-- START_FORCE: loaded and RUNNING (R136). -/
def Counter.startForce (c : Counter) : Counter := { c.load with running := true }

/-- STOP: STOPPED, the value kept (R136). -/
def Counter.stop (c : Counter) : Counter := { c with running := false }

/-- Changes one counter. -/
def State.modCounter (s : State) (n : Fin 2) (f : Counter → Counter) : State :=
  s.setCounters (s.counters.set n.val (f s.counters[n]))

/-! ## Supervisor transitions (R156 to R170) -/

/-- The WATCHDOG_STAGE record of a change of state that has just been made (R172). -/
def State.stage (s : State) (left : WdState) (reason : WdReason) : State :=
  s.record (.watchdogStage left s.wd.state reason s.wd.hostResets)

/-- Entry to WARNED (R163). -/
def State.enterWarned (s : State) (reason : WdReason) : State :=
  let left := s.wd.state
  ((s.setWd { s.wd with
      state := .warned
      timer := BitVec.ofNat 12 s.settings.wdGrace
      goodRun := if s.wd.goodRun < 16 then 0 else s.wd.goodRun }).raise .watchdog).stage left reason

/-- Entry to RESETTING, or to HOLDING when the host-reset count is exhausted (R164, R167). -/
def State.enterResetting (s : State) (reason : WdReason) : State :=
  let left := s.wd.state
  let count := s.wd.hostResets + 1
  if s.settings.wdRetry < count then
    ((s.setWd { s.wd with state := .holding, timer := 0, hostResets := count }).reforce).stage left reason
  else
    (((s.setWd { s.wd with
        state := .resetting
        timer := BitVec.ofNat 12 s.settings.wdPulse
        goodRun := 0
        hostResets := count }).flush).reforce).stage left reason

/-- Entry to REARM at the end of a pulse or at the return from BACKUP (R165, R169): forcing by RESETTING ends. -/
def State.enterRearm (s : State) (reason : WdReason) : State :=
  let left := s.wd.state
  (((s.setWd { s.wd with
      state := .rearm
      token := 0
      timer := BitVec.ofNat 12 s.settings.wdBootBeats }).reforce).raise .watchdog).stage left reason

/-- Entry to WATCHING by a feed from WARNED or REARM (R161). -/
def State.feedBack (s : State) : State :=
  let left := s.wd.state
  (s.setWd { s.wd with
      state := .watching
      elapsed := 0
      silence := 0
      timer := 0
      token := s.wd.token + 1 }).stage left .feed

/-! ## Changes of operating state and resets (R182 to R190) -/

/-- Entry to HELD from ACTIVE (R185). -/
def State.enterHeld (s : State) : State :=
  ((s.setControl { s.control with op := .held, holdMark := true }).flush).reforce.recompute

/-- The supervisor at entry to BACKUP (R169): SUSPENDED from WATCHING, WARNED, RESETTING or REARM, with its record. -/
def State.suspend (s : State) : State :=
  match s.wd.state with
  | .watching | .warned | .resetting | .rearm =>
    (s.setWd { s.wd with state := .suspended, timer := 0 }).stage s.wd.state .powerDown
  | .dormant | .holding | .suspended => s

/-- Entry to BACKUP from ACTIVE or HELD (R186). -/
def State.enterBackup (s : State) : State :=
  ((((s.setControl { s.control with op := .backup, restoreCount := 0, backupStart := s.time.uptime }).flush).record
    .powerDown).suspend).reforce.recompute

/-- The settings after a pin reset or a FULL reset: those of an engaged lock's class are kept, the others take their
defaults (R41). -/
def Settings.afterReset (cfg : Settings) (l : Locks) : Settings :=
  Vector.ofFn fun i =>
    match lockClass i.val with
    | .outputs => if l.outputs then cfg[i] else settingDefault i.val
    | .supervisor => if l.supervisor then cfg[i] else settingDefault i.val
    | .none => settingDefault i.val

/-- The supervisor as a pin reset or a FULL reset leaves it (R170). -/
def Supervisor.afterReset (cfg : Settings) (l : Locks) : Supervisor :=
  if l.supervisor then ⟨.rearm, 0, 0, BitVec.ofNat 12 cfg.wdBootBeats, 0, 0, 0⟩ else .powerOn

/-- Steps 1 to 7 of the release (R189), after the clearing of the notification block. -/
def State.releaseBlocks (s : State) (cause : ResetCause) : State :=
  let s := s.setNotify .clear
  let s := s.setLink { s.link with errors := 0 }
  let s := s.setSettings (s.settings.afterReset s.control.locks)
  let s := s.record (.deviceReset cause)
  let s := s.setTime { s.time with slew := 0, slewHold := false }
  let s := s.setSense (s.sense.map fun l => { l with restart := true })
  let s := s.setCounters (Vector.replicate 2 .cleared)
  s.setOutputs (Vector.ofFn fun n =>
    { s.outputs[n] with owner := .host, level := s.settings.outSafe n, pulse := none, fresh := false })

/-- Step 8 of the release: the supervisor is reset, with a WATCHDOG_STAGE record if its state changes (R170). -/
def State.releaseWd (s : State) : State :=
  let left := s.wd.state
  let s := s.setWd (.afterReset s.settings s.control.locks)
  if s.wd.state = left then s else s.stage left .reset

/-- The release that ends a pin reset, and the second half of a DEVICE_RESET FULL (R189). -/
def State.release (s : State) (cause : ResetCause) : State :=
  let s := (s.releaseBlocks cause).releaseWd
  let s := s.raise .deviceReset
  let s := if s.control.locks.supervisor then s.raise .watchdog else s
  (s.setControl { s.control with op := .active, holdMark := false }).reforce.recompute

/-- The backup duration in whole seconds of uptime, modulo 2³² (R187 step 2). -/
def State.backupSeconds (s : State) : BitVec 32 :=
  BitVec.ofNat 32 ((s.time.uptime - s.control.backupStart).toNat / 1024)

/-- The return from BACKUP to HELD or ACTIVE (R187), without the release that may follow it. -/
def State.returnEvent (s : State) : State :=
  let op : OpState := if s.control.nrst.recognised then .active else .held
  let s := s.setControl { s.control with op := op, restoreCount := 0 }
  let s := s.record (.powerUp s.backupSeconds)
  let s := s.raise .power
  let s := if s.wd.state = .suspended then s.enterRearm .powerUp else s
  let s := s.setSense (Vector.ofFn fun n =>
    if s.settings.senseWatch n then s.sense[n] else { s.sense[n] with restart := true })
  let s := s.setControl { s.control with holdMark := s.control.holdMark || op == .held }
  s.reforce.recompute

/-- The return from BACKUP, followed directly by the release when the part is ACTIVE with the hold mark set (R187, log
entry 10). -/
def State.returnFromBackup (s : State) : State :=
  let s := s.returnEvent
  if s.control.op = .active ∧ s.control.holdMark then s.release .pin else s

/-- The end of the power-on hold (R188): power-on values, the POWER_ON record, ACTIVE or HELD by the recognised nRST level. A
transaction whose nCS fell during the hold stays abandoned (R3). -/
def State.powerOnReset (s : State) : State :=
  let r := s.control.nrst.recognised
  let txn : Transaction := if s.link.txn = .idle then .idle else .discarding
  let s := State.powerOnValues txn .powerOnHold s.control.nrst s.freeIndex s.pending
  let s := s.record (.deviceReset .powerOn)
  let s := s.setControl { s.control with op := if r then .active else .held, holdMark := !r }
  s.reforce.recompute

/-! ## The executor (R17, R26 to R31) -/

/-- Which checks of a request fail (R30). A check that is not named passes. -/
structure Checks where
  locked : Bool := false
  state : Bool := false
  safeHold : Bool := false
  notOwner : Bool := false
  timeInvalid : Bool := false
  range : Bool := false

/-- The first failing result in the order of R30, or none when every check passes. -/
def Checks.result (c : Checks) : Option Result :=
  if c.locked then some .locked
  else if c.state then some .state
  else if c.safeHold then some .safeHold
  else if c.notOwner then some .notOwner
  else if c.timeInvalid then some .timeInvalid
  else if c.range then some .range
  else none

/-- What performing a request gives: the state with a result and a payload to answer with, or the state alone for a performed
DEVICE_RESET, which leaves no response (R17). -/
inductive Reply where
  | answer (s : State) (result : Result) (payload : List Byte)
  | silent (s : State)

/-- A request whose checks fail is refused: no state changes and the response carries no payload (R28, R31). -/
def Checks.guard (c : Checks) (s : State) (performed : Reply) : Reply :=
  match c.result with
  | some refusal => .answer s refusal []
  | none => performed

/-- The executor may take a request (R17). -/
def State.mayPerform (s : State) : Bool :=
  s.control.op == .active && decide (s.link.responses.length < Config.queueCapacity) && !s.link.requests.isEmpty

/-- The end of a performed request: its response joins the response queue and nINT is recomputed (R17, R27, R176). -/
def Reply.finish (tag : Tag) : Reply → State
  | .answer s result payload =>
    (s.setLink { s.link with responses := s.link.responses ++ [⟨tag, result, payload⟩] }).recompute
  | .silent s => s.recompute

/-- Performs the request at the head of the request queue, if the executor may take it and it is one the command is for;
otherwise nothing happens and the request waits (R17, R18, R26). -/
def State.perform (s : State) (accepts : Request → Bool) (body : List Byte → State → Reply) : State :=
  match s.link.requests with
  | [] => s
  | q :: rest =>
    if s.mayPerform && accepts q then (body q.payload (s.setLink { s.link with requests := rest })).finish q.tag else s

/-- A request of one kind. -/
def ofKind (k : Kind) (q : Request) : Bool := q.kind == k

/-- A request of one kind whose selector byte at a position names this operation, or names none of the code's operations
(`count` of them, from 0 on): every row of the code performs that one, and refuses it with RANGE (log entry 15). -/
def ofSelector (k : Kind) (at_ : Nat) (op count : Nat) (q : Request) : Bool :=
  q.kind == k && ((byteAt q.payload at_).toNat == op || decide (count ≤ (byteAt q.payload at_).toNat))

end Sys2Proof.Machine
end

