-- ==== Sys2Proof/Machine/Clock.lean ====
section
/-! DEFINITION. The timebase: the crystal monitor's declarations (R45), step (a) of a boundary with its source change and
epoch end (R46 to R56, R62), and the requests TIME_READ, TIME_SET and TIME_SLEW (R57 to R63). -/

namespace Sys2Proof.Machine

/-- The part runs: it has an operating state, and boundaries take place (R50, R188). -/
def State.running (s : State) : Bool :=
  s.control.op == .active || s.control.op == .held || s.control.op == .backup

/-! ## The crystal monitor (R45) -/

/-- CRYSTAL_GOOD: the crystal cycle that completes the count; the monitor becomes GOOD and the declaration is pending
(R45). In GOOD nothing happens. -/
def Timebase.crystalGood (t : Timebase) : Timebase :=
  match t.monitor with
  | .notGood _ => { t with monitor := .good, declaration := some .good, gap := 0 }
  | .good => t

/-- CRYSTAL_FAILED: the gap count reaches 33 in GOOD; the monitor becomes NOT_GOOD with count 0 and the declaration is
pending, in place of an earlier one (R45). From now on the divider counts RC cycles, from the count it holds (R47). -/
def Timebase.crystalFailed (t : Timebase) : Timebase :=
  match t.monitor with
  | .good => { t with monitor := .notGood 0, declaration := some .failed, gap := Config.gapCycles }
  | .notGood _ => t

/-- A gap longer than 1 ms in NOT_GOOD: the count returns to 0 and no declaration is made (R45). -/
def Timebase.longGap (t : Timebase) : Timebase :=
  match t.monitor with
  | .notGood _ => { t with monitor := .notGood 0, gap := Config.gapCycles }
  | .good => t

/-- The divider counts crystal cycles, not RC cycles: the source is XTAL and the crystal has not been declared failed (R47). -/
def Timebase.countsCrystal (t : Timebase) : Bool := t.source == .xtal && t.declaration != some .failed

/-! ## Step (a) of a boundary (R50) -/

/-- The clock advance of a boundary (R53, R62): none at the epoch end; one tick after a hold, which clears the mark; two ticks
or none where a slew unit applies, at .511; otherwise one tick. -/
def Timebase.advanceClock (t : Timebase) : Timebase :=
  if t.clock = epochEndStamp then t
  else if t.slewHold then { t with clock := t.clock + 1, slewHold := false }
  else if t.slew ≠ 0 ∧ Stamp.ticks t.clock = 511 then
    if t.slew.msb then { t with slew := t.slew + 1, slewHold := true }
    else { t with clock := t.clock + 2, slew := t.slew - 1 }
  else { t with clock := t.clock + 1 }

/-- Uptime, the clock and the holdover count of step (a), in that order (R50, R52, R53, R48). The divider starts again from
0 at the boundary it produces (R47). -/
def Timebase.advance (t : Timebase) : Timebase :=
  let t := { t with uptime := t.uptime + 1, divider := 0 }
  let t := t.advanceClock
  if t.source = .holdover then { t with holdover := satAdd t.holdover 1 } else t

/-- SOURCE_CHANGE: the pending declaration acts and is cleared, with its record (R46, R48). Nothing happens when none is
pending. -/
def State.sourceChange (s : State) : State :=
  match s.time.declaration, s.time.source with
  | none, _ => s
  | some .good, .rcStartup => s.setTime { s.time with source := .xtal, declaration := none }
  | some .good, .holdover =>
    (s.setTime { s.time with source := .xtal, declaration := none }).record (.clockRestored s.time.holdover)
  | some .failed, .xtal =>
    (s.setTime { s.time with source := .holdover, declaration := none, holdover := 0 }).record .clockFault
  | some _, _ => s.setTime { s.time with declaration := none }

/-- EPOCH_END: the clock has been brought to the epoch end and the flag is not yet set; the flag is set, and a TIME_STEP
record with EPOCH and a TIME_STEP occurrence are made (R56). Nothing happens otherwise: a TIME_SET to the epoch end sets the
flag itself (R59). -/
def State.epochEndEvent (s : State) : State :=
  if s.time.clock = epochEndStamp ∧ s.time.epochFlag = false then
    ((s.setTime { s.time with epochFlag := true }).append (.timeStep (epochEndStamp - 1))
      { RecordFlags.none with epoch := true }).raise .timeStep
  else s

/-- Step (a) of a boundary (R50). -/
def State.stepA (s : State) : State := ((s.setTime s.time.advance).sourceChange).epochEndEvent

/-! ## Requests -/

/-- TIME_READ's payload (R57). -/
def Timebase.readPayload (t : Timebase) : List Byte :=
  Stamp.bytes t.clock ++ be32 t.uptime ++ [bit t.valid, t.source.code, bit t.epochFlag] ++ be16 t.slew

/-- TIME_READ is never refused and changes no state (R57). -/
def reqTimeRead (_ : List Byte) (s : State) : Reply := .answer s .ok s.time.readPayload

/-- The signed step of a TIME_SET, in ticks (R59 step 1). -/
def timeDelta (old new : Stamp) : Int := (new.toNat : Int) - (old.toNat : Int)

/-- An entry that a TIME_SET shifts: ARMED with RELATIVE anchor (R60). -/
def Entry.shifts (e : Entry) : Bool := e.state == .armed && e.relative

/-- The count of ticks a shift aims at (R60). -/
def Entry.shiftTarget (e : Entry) (delta : Int) : Int := (e.due.toNat : Int) + delta

/-- The shift of an entry needs a clamp (R60). -/
def Entry.shiftClamps (e : Entry) (delta : Int) : Bool :=
  e.shifts && (decide (e.shiftTarget delta < 0) || decide ((epochEndStamp.toNat : Int) < e.shiftTarget delta))

/-- An entry after the shift of a TIME_SET (R60). -/
def Entry.shift (e : Entry) (delta : Int) : Entry :=
  if e.shifts then
    { e with due := clampStamp (e.shiftTarget delta), clamped := e.clamped || e.shiftClamps delta }
  else e

/-- A TIME_SET to a new clock value, steps 1 to 7 of R59. -/
def State.setClock (s : State) (new : Stamp) : State :=
  let old := s.time.clock
  let delta := timeDelta old new
  let atEnd := new == epochEndStamp
  let s := s.setTime { s.time with clock := new, epochFlag := atEnd, slew := 0, slewHold := false }
  let s := s.setSched (s.sched.map fun e => e.shift delta)
  let s := s.append (.timeStep old) { RecordFlags.none with epoch := atEnd }
  let s := s.raise .timeStep
  s.setTime { s.time with valid := true }

/-- TIME_SET's payload after OK (R58): the old clock value, and how many entries were shifted and clamped. -/
def State.timeSetPayload (s : State) (new : Stamp) : List Byte :=
  let delta := timeDelta s.time.clock new
  Stamp.bytes s.time.clock ++
    [byteOf (s.sched.toList.countP fun e => e.shifts), byteOf (s.sched.toList.countP fun e => e.shiftClamps delta)]

/-- The clock value a TIME_SET names: seconds (4), ticks (2) (R58). -/
def timeSetStamp (p : List Byte) : Stamp := Stamp.of (u32At p 0) (u16At p 4)

/-- TIME_SET (R58, R59). -/
def reqTimeSet (p : List Byte) (s : State) : Reply :=
  ({ locked := s.control.locks.clock, range := decide (1023 < (u16At p 4).toNat) } : Checks).guard s
    (.answer (s.setClock (timeSetStamp p)) .ok (s.timeSetPayload (timeSetStamp p)))

/-- TIME_SLEW replaces the slew remaining and is never refused (R61). -/
def reqTimeSlew (p : List Byte) (s : State) : Reply :=
  .answer (s.setTime { s.time with slew := u16At p 0 }) .ok (be16 s.time.slew)

/-- TIME_READ. -/
def execTimeRead (s : State) : Host.Outcome State Fault Refusal := .next (s.perform (ofKind .timeRead) reqTimeRead)

/-- TIME_SET. -/
def execTimeSet (s : State) : Host.Outcome State Fault Refusal := .next (s.perform (ofKind .timeSet) reqTimeSet)

/-- TIME_SLEW. -/
def execTimeSlew (s : State) : Host.Outcome State Fault Refusal := .next (s.perform (ofKind .timeSlew) reqTimeSlew)

/-- CRYSTAL_GOOD, which stands for the completion of the count (log entry 7). -/
def execCrystalGood (s : State) : Host.Outcome State Fault Refusal :=
  .next (if s.running then s.setTime s.time.crystalGood else s)

/-- CRYSTAL_FAILED, which stands for the gap count reaching 33 (log entry 7). -/
def execCrystalFailed (s : State) : Host.Outcome State Fault Refusal :=
  .next (if s.running then s.setTime s.time.crystalFailed else s)

/-- GAP_LONGER_THAN_1_MS, which stands for the gap count reaching 33 (log entry 7). -/
def execGapLongerThan1Ms (s : State) : Host.Outcome State Fault Refusal :=
  .next (if s.running then s.setTime s.time.longGap else s)

/-- SOURCE_CHANGE, a piece of step (a) (log entry 6). -/
def execSourceChange (s : State) : Host.Outcome State Fault Refusal := .next (if s.running then s.sourceChange else s)

/-- The next clock advance brings the clock to the epoch end (R53, R56). -/
def Timebase.endDue (t : Timebase) : Bool := t.clock != epochEndStamp && t.advanceClock.clock == epochEndStamp

/-- EPOCH_END, a piece of step (a): the clock advance that brings the clock to the epoch end, with its record and
occurrence; nothing happens when the next advance does not (log entry 6). -/
def execEpochEnd (s : State) : Host.Outcome State Fault Refusal :=
  .next (if s.running && s.time.endDue then (s.setTime s.time.advanceClock).epochEndEvent else s)

end Sys2Proof.Machine
end

