-- ==== Sys2Proof/Machine/Counters.lean ====
section
/-! DEFINITION. The interval counters: COUNTER_CONTROL's four operations, COUNTER_LATCH and COUNTER_READ (R136 to R138), and
step (d) of a boundary with the expiry (R132 to R135). -/

namespace Sys2Proof.Machine

/-! ## Requests -/

/-- COUNTER_CONTROL with an operation on the counter it names, whose new status byte and value it answers (R136). -/
def counterControl (f : Counter → Counter) (p : List Byte) (s : State) : Reply :=
  let counter := finOf 2 (byteAt p 0).toNat
  ({ range := counter.isNone || decide (3 < (byteAt p 1).toNat) } : Checks).guard s
    (match counter with
      | some n =>
        .answer (s.modCounter n f) .ok ((f s.counters[n]).status :: be16 (form16 (f s.counters[n]).value))
      | none => .answer s .range [])

/-- COUNTER_LATCH replaces a latch and answers the one replaced (R137). -/
def reqCounterLatch (p : List Byte) (s : State) : Reply :=
  let counter := finOf 2 (byteAt p 0).toNat
  ({ range := counter.isNone } : Checks).guard s
    (match counter with
      | some n => .answer (s.modCounter n fun c => { c with latch := u16At p 1 }) .ok (be16 s.counters[n].latch)
      | none => .answer s .range [])

/-- The seven bytes of a counter in COUNTER_READ (R138). -/
def Counter.bytes (x : Counter) : List Byte :=
  be16 (form16 x.value) ++ be16 x.latch ++ [x.status] ++ be16 x.expiries

/-- COUNTER_READ is never refused and changes no state (R138). -/
def reqCounterRead (_ : List Byte) (s : State) : Reply :=
  .answer s .ok (s.counters[0].bytes ++ s.counters[1].bytes)

/-! ## Step (d) of a boundary -/

/-- The counter receives a source event at the present boundary (R132, R125). -/
def State.sourceEvent (s : State) (n : Fin 2) : Bool :=
  match s.settings.cntSource n with
  | .tick1024 => true
  | .tick32 => s.time.uptime.toNat % 32 == 0
  | .tick1 => s.time.uptime.toNat % 1024 == 0
  | .c0Expiry => s.signals.c0Expired
  | .sense line => s.signals.edges.getLsbD line.val

/-- A counter's state, value and count at its expiry (R133 step 3). -/
def Counter.expire (x : Counter) (oneShot : Bool) : Counter :=
  { x with expiries := x.expiries + 1, value := latchValue x.latch, running := x.running && !oneShot }

/-- The output effect of an expiry, applied only to a line that the counter owns and that is not forced (R134). -/
def State.counterEffect (s : State) (n : Fin 2) : State :=
  match s.settings.cntEffectLine n with
  | some line =>
    if s.outputs[line].owner = .ofCounter n ∧ s.outputs[line].forced = false then
      match s.settings.cntEffect n with
      | .none => s
      | .pulse => s.modLine line OutLine.counterPulse
      | .toggle => s.modLine line OutLine.toggle
    else s
  | none => s

/-- The cause of a counter's expiries (R135). -/
def Cause.ofCounter (n : Fin 2) : Cause := if n = 0 then .counter0 else .counter1

/-- The expiry of a counter, in the order of R133: count, reload, stop, effect, record, occurrence. -/
def State.expire (s : State) (n : Fin 2) : State :=
  let s := s.modCounter n fun x => x.expire (s.settings.cntOneShot n)
  let s := s.counterEffect n
  let s := if s.settings.cntJournal n then s.record (.counterExpiry n s.counters[n].expiries) else s
  let s := s.raise (.ofCounter n)
  if n = 0 then s.setSignals { s.signals with c0Expired := true } else s

/-- A counter that receives a source event: one step of a RUNNING counter, and its expiry at 0 (R133). -/
def State.stepCounter (s : State) (n : Fin 2) : State :=
  if s.counters[n].running then
    let s := s.modCounter n fun x => { x with value := x.value - 1 }
    if s.counters[n].value = 0 then s.expire n else s
  else s

/-- One counter's turn in step (d) (R133). -/
def State.dealCounter (s : State) (n : Fin 2) : State := if s.sourceEvent n then s.stepCounter n else s

/-- Step (d) of a boundary: in ACTIVE, C0 and then C1; frozen otherwise (R133, R141). -/
def State.stepD (s : State) : State := if s.control.op = .active then (s.dealCounter 0).dealCounter 1 else s

/-- COUNTER_START. -/
def execCounterStart (s : State) : Host.Outcome State Fault Refusal :=
  .next (s.perform (ofSelector .counterControl 1 0 4) (counterControl Counter.start))

/-- COUNTER_START_FORCE. -/
def execCounterStartForce (s : State) : Host.Outcome State Fault Refusal :=
  .next (s.perform (ofSelector .counterControl 1 1 4) (counterControl Counter.startForce))

/-- COUNTER_STOP. -/
def execCounterStop (s : State) : Host.Outcome State Fault Refusal :=
  .next (s.perform (ofSelector .counterControl 1 2 4) (counterControl Counter.stop))

/-- COUNTER_LOAD. -/
def execCounterLoad (s : State) : Host.Outcome State Fault Refusal :=
  .next (s.perform (ofSelector .counterControl 1 3 4) (counterControl Counter.load))

/-- COUNTER_LATCH. -/
def execCounterLatch (s : State) : Host.Outcome State Fault Refusal :=
  .next (s.perform (ofKind .counterLatch) reqCounterLatch)

/-- COUNTER_READ. -/
def execCounterRead (s : State) : Host.Outcome State Fault Refusal :=
  .next (s.perform (ofKind .counterRead) reqCounterRead)

/-- The next source event brings a counter to 0: it is RUNNING with at most one event to come, in ACTIVE (R133, R141). -/
def State.expiryDue (s : State) (n : Fin 2) : Bool :=
  s.control.op == .active && s.counters[n].running && decide (s.counters[n].value ≤ 1)

/-- EXPIRY, a piece of step (d): the source event that brings a counter to 0, with the expiry; nothing happens when the next
event does not (log entry 6). -/
def execExpiry (counter : Nat) (s : State) : Host.Outcome State Fault Refusal :=
  match finOf 2 counter with
  | some n => .next (if s.expiryDue n then s.stepCounter n else s)
  | none => .fault .noSuchCounter

end Sys2Proof.Machine
end

