-- ==== Sys2Proof/Machine/Outputs.lean ====
section
/-! DEFINITION. The output requests OUTPUT_WRITE, OUTPUT_PULSE, OUTPUT_CLAIM and OUTPUT_READ (R146 to R153), and the pulse
logic of step (e) with REVERT (R149). -/

namespace Sys2Proof.Machine

/-- The numbers of the six lines, in ascending order. -/
def allLines : List (Fin 6) := [0, 1, 2, 3, 4, 5]

/-- Some line that a mask names has a property. -/
def State.anyNamed (s : State) (mask : Byte) (f : OutLine → Bool) : Bool :=
  allLines.any fun n => mask.getLsbD n.val && f s.outputs[n]

/-- The levels of the six lines as a byte (R147). -/
def State.levelsByte (s : State) : Byte :=
  allLines.foldl (fun b n => b ||| (bit s.outputs[n].level <<< n.val)) 0

/-- OUTPUT_WRITE: each named line takes its level and loses its pulse (R147). -/
def reqOutputWrite (p : List Byte) (s : State) : Reply :=
  let mask := byteAt p 0
  let levels := byteAt p 1
  let s' := s.setOutputs (Vector.ofFn fun n =>
    if mask.getLsbD n.val then s.outputs[n].write (levels.getLsbD n.val) else s.outputs[n])
  ({ safeHold := s.anyNamed mask (·.forced)
     notOwner := s.anyNamed mask fun l => l.owner != .host
     range := mask.extractLsb' 6 2 != 0 || levels.extractLsb' 6 2 != 0 } : Checks).guard s
    (.answer s' .ok [s'.levelsByte])

/-- A property of the line a byte names, false when it names none (R30). -/
def State.namedLine (s : State) (b : Byte) (f : OutLine → Bool) : Bool :=
  match finOf 6 b.toNat with
  | some n => f s.outputs[n]
  | none => false

/-- OUTPUT_PULSE: starts or retriggers a pulse on a host-owned line (R148). -/
def reqOutputPulse (p : List Byte) (s : State) : Reply :=
  let level := byteAt p 1
  let width := u16At p 2
  let line := finOf 6 (byteAt p 0).toNat
  ({ safeHold := s.namedLine (byteAt p 0) (·.forced)
     notOwner := s.namedLine (byteAt p 0) fun l => l.owner != .host
     range := line.isNone || decide (1 < level.toNat) || width == 0 } : Checks).guard s
    (match line with
      | some n =>
        let l := s.outputs[n]
        let revert := match l.pulse with | some q => q.revert | none => l.level
        let replaced := match l.pulse with | some q => q.remaining | none => 0
        .answer (s.modLine n fun l => l.startPulse (level == 1) width) .ok (bit revert :: be16 replaced)
      | none => .answer s .range [])

/-- OUTPUT_CLAIM: a new owner for an unforced line, any pending pulse cancelled, the level kept (R146). -/
def reqOutputClaim (p : List Byte) (s : State) : Reply :=
  let line := finOf 6 (byteAt p 0).toNat
  let owner := Owner.ofCode (byteAt p 1)
  ({ safeHold := s.namedLine (byteAt p 0) (·.forced)
     range := line.isNone || owner.isNone } : Checks).guard s
    (match line, owner with
      | some n, some o =>
        .answer (s.modLine n fun l => { l with owner := o, pulse := none }) .ok [s.outputs[n].owner.code]
      | _, _ => .answer s .range [])

/-- The five bytes of a line in OUTPUT_READ (R153). -/
def State.lineBytes (s : State) (n : Fin 6) : List Byte :=
  let l := s.outputs[n]
  let flags := bit l.level ||| (bit l.forced <<< 1) ||| (bit l.pulse.isSome <<< 2) |||
    (bit (match l.pulse with | some q => q.revert | none => false) <<< 3)
  [l.owner.code, flags, (s.outPin n).code] ++ be16 (match l.pulse with | some q => q.remaining | none => 0)

/-- OUTPUT_READ is never refused and changes no state (R153). -/
def reqOutputRead (_ : List Byte) (s : State) : Reply := .answer s .ok (allLines.flatMap s.lineBytes)

/-- Step (e) of a boundary on one line (R149). -/
def State.pulseLine (s : State) (n : Fin 6) : State := s.modLine n OutLine.deal

/-- Step (e) of a boundary, from O0 to O5 (R149). -/
def State.stepE (s : State) : State := allLines.foldl State.pulseLine s

/-- OUTPUT_WRITE. -/
def execOutputWrite (s : State) : Host.Outcome State Fault Refusal := .next (s.perform (ofKind .outputWrite) reqOutputWrite)

/-- OUTPUT_PULSE. -/
def execOutputPulse (s : State) : Host.Outcome State Fault Refusal := .next (s.perform (ofKind .outputPulse) reqOutputPulse)

/-- OUTPUT_CLAIM. -/
def execOutputClaim (s : State) : Host.Outcome State Fault Refusal := .next (s.perform (ofKind .outputClaim) reqOutputClaim)

/-- OUTPUT_READ. -/
def execOutputRead (s : State) : Host.Outcome State Fault Refusal := .next (s.perform (ofKind .outputRead) reqOutputRead)

/-- Step (e) would revert the line: a pulse is pending, not fresh, whose remaining count is then 0 (R149). -/
def OutLine.revertDue (l : OutLine) : Bool :=
  !l.fresh &&
  match l.countDown.pulse with
  | some p => p.remaining == 0
  | none => false

/-- REVERT, a piece of step (e): the count that brings a pulse's remaining count to 0, with the revert; nothing happens when
the next count does not (log entry 6). -/
def execRevert (line : Nat) (s : State) : Host.Outcome State Fault Refusal :=
  match finOf 6 line with
  | some n => .next (if s.running && s.outputs[n].revertDue then s.pulseLine n else s)
  | none => .fault .noSuchLine

end Sys2Proof.Machine
end

