-- ==== Sys2Proof/Machine/Schedule.lean ====
section
/-! DEFINITION. The schedule engine: the six schedule requests (R71 to R79), the fire of an entry with its catch-up (R80 to
R87, R89, R90), and step (f) of a boundary. -/

namespace Sys2Proof.Machine

/-- The ids of the 32 entries, in ascending order. -/
def allEntries : List (Fin 32) := List.finRange 32

/-- Changes one entry. -/
def State.modEntry (s : State) (id : Fin 32) (f : Entry → Entry) : State :=
  s.setSched (s.sched.set id.val (f s.sched[id]))

/-! ## SCHED_ARM (R71 to R74) -/

/-- The fields of a SCHED_ARM payload (R71): what its flags say is present decides where the later fields stand. -/
structure ArmFields where
  id : Nat
  flags : Byte
  seconds : BitVec 32
  ticks : BitVec 16
  periodSeconds : BitVec 24
  periodTicks : BitVec 16
  budget : BitVec 16
  count : Nat
  actions : List Byte

/-- The RELATIVE anchor of a flags byte (R71). -/
def ArmFields.relative (a : ArmFields) : Bool := a.flags.getLsbD 0
/-- The BURST policy of a flags byte. -/
def ArmFields.burst (a : ArmFields) : Bool := a.flags.getLsbD 1
/-- The backup-eligible flag of a flags byte. -/
def ArmFields.eligible (a : ArmFields) : Bool := a.flags.getLsbD 2
/-- The replace flag of a flags byte. -/
def ArmFields.replace (a : ArmFields) : Bool := a.flags.getLsbD 3
/-- The has-period flag of a flags byte. -/
def ArmFields.hasPeriod (a : ArmFields) : Bool := a.flags.getLsbD 4
/-- The has-budget flag of a flags byte. -/
def ArmFields.hasBudget (a : ArmFields) : Bool := a.flags.getLsbD 5

/-- Reads the fields of a SCHED_ARM payload (R71). -/
def armFields (p : List Byte) : ArmFields :=
  let flags := byteAt p 1
  let afterPeriod := if flags.getLsbD 4 then 13 else 8
  let afterBudget := if flags.getLsbD 5 then afterPeriod + 2 else afterPeriod
  { id := (byteAt p 0).toNat
    flags := flags
    seconds := u32At p 2
    ticks := u16At p 6
    periodSeconds := u24At p 8
    periodTicks := u16At p 11
    budget := u16At p afterPeriod
    count := (byteAt p afterBudget).toNat
    actions := p.drop (afterBudget + 1) }

/-- The payload length that the flags and the action count call for (R71). -/
def ArmFields.length (a : ArmFields) : Nat :=
  9 + (if a.hasPeriod then 5 else 0) + (if a.hasBudget then 2 else 0) + 4 * a.count

/-- The given due stamp or offset, as a count of ticks (R71). -/
def ArmFields.given (a : ArmFields) : Nat := a.seconds.toNat * 1024 + a.ticks.toNat

/-- The given period, as a count of ticks (R71). -/
def ArmFields.periodCount (a : ArmFields) : Nat := a.periodSeconds.toNat * 1024 + a.periodTicks.toNat

/-- The due stamp an arming sets, as a count of ticks: the given stamp for ABSOLUTE, the clock value plus the offset for
RELATIVE (R73). -/
def ArmFields.dueCount (a : ArmFields) (clock : Stamp) : Nat :=
  if a.relative then clock.toNat + a.given else a.given

/-- A SCHED_ARM payload fails a RANGE check of R72. -/
def ArmFields.outOfRange (a : ArmFields) (length : Nat) (clock : Stamp) : Bool :=
  decide (31 < a.id) || length != a.length || decide (a.count < 1) || decide (4 < a.count) ||
  a.flags.extractLsb' 6 2 != 0 || decide (1023 < a.ticks.toNat) ||
  (a.relative && beyondEnd (clock.toNat + a.given)) ||
  (a.hasPeriod && (decide (1023 < a.periodTicks.toNat) || decide (a.periodCount < 16))) ||
  (a.hasBudget && (!a.hasPeriod || a.budget == 0)) ||
  (decodeActions a.actions).isNone

/-- The entry with an id holds a state, false for an id that names no entry (R30). -/
def State.entryIs (s : State) (id : Nat) (f : EntryState → Bool) : Bool :=
  match finOf 32 id with
  | some i => f s.sched[i].state
  | none => false

/-- The checks of SCHED_ARM (R72). -/
def armChecks (a : ArmFields) (length : Nat) (s : State) : Checks :=
  { state := s.entryIs a.id (fun e => e == .armed || e == .paused) && !a.replace
    timeInvalid := !a.relative && !s.time.valid
    range := a.outOfRange length s.time.clock }

/-- The entry that a SCHED_ARM sets (R73), with the mark of a RELATIVE offset of 0 (R82). -/
def ArmFields.entry (a : ArmFields) (clock : Stamp) : Entry :=
  { Entry.free with
    state := .armed
    relative := a.relative
    due := BitVec.ofNat 42 (a.dueCount clock)
    period := if a.hasPeriod then some (BitVec.ofNat 34 a.periodCount) else none
    budget := if a.hasBudget then some a.budget else none
    burst := a.burst
    backupEligible := a.eligible
    actions := (decodeActions a.actions).getD []
    atOnce := a.relative && a.given == 0 }

/-- SCHED_ARM arms or replaces an entry and answers its due stamp; it never fires it (R73, R74). -/
def reqSchedArm (p : List Byte) (s : State) : Reply :=
  let a := armFields p
  let e := a.entry s.time.clock
  (armChecks a p.length s).guard s
    (match finOf 32 a.id with
      | some id => .answer (s.modEntry id fun _ => e) .ok (Stamp.bytes e.due)
      | none => .answer s .range [])

/-! ## SCHED_PAUSE, SCHED_RESUME, SCHED_CANCEL (R75 to R77) -/

/-- An entry as a pause leaves it (R75). -/
def Entry.pause (e : Entry) (clock : Stamp) : Entry :=
  { e with
    state := .paused
    remaining := if e.relative then some (BitVec.ofNat 42 (e.due.toNat - clock.toNat)) else none }

/-- An entry as a resume leaves it (R76), with the mark of a RELATIVE remaining interval of 0 (R82). -/
def Entry.resume (e : Entry) (clock : Stamp) : Entry :=
  if e.relative then
    let sum := clock.toNat + (e.remaining.getD 0).toNat
    { e with
      state := .armed
      remaining := none
      due := if beyondEnd sum then epochEndStamp else BitVec.ofNat 42 sum
      clamped := e.clamped || beyondEnd sum
      atOnce := e.remaining.getD 0 == 0 }
  else { e with state := .armed, atOnce := false }

/-- SCHED_PAUSE (R75). -/
def reqSchedPause (p : List Byte) (s : State) : Reply :=
  let id := (byteAt p 0).toNat
  ({ state := s.entryIs id (fun e => e != .armed), range := decide (31 < id) } : Checks).guard s
    (match finOf 32 id with
      | some i => .answer (s.modEntry i fun e => e.pause s.time.clock) .ok []
      | none => .answer s .range [])

/-- SCHED_RESUME (R76). -/
def reqSchedResume (p : List Byte) (s : State) : Reply :=
  let id := (byteAt p 0).toNat
  ({ state := s.entryIs id (fun e => e != .paused), range := decide (31 < id) } : Checks).guard s
    (match finOf 32 id with
      | some i =>
        .answer (s.modEntry i fun e => e.resume s.time.clock) .ok (Stamp.bytes (s.sched[i].resume s.time.clock).due)
      | none => .answer s .range [])

/-- SCHED_CANCEL (R77). -/
def reqSchedCancel (p : List Byte) (s : State) : Reply :=
  let id := (byteAt p 0).toNat
  ({ range := decide (31 < id) } : Checks).guard s
    (match finOf 32 id with
      | some i => .answer (s.modEntry i fun _ => .free) .ok [s.sched[i].state.code]
      | none => .answer s .range [])

/-! ## Order and due entries (R80, R89) -/

/-- Puts an entry among others in ascending due stamp, before those of the same due stamp. -/
def insertByDue (table : Vector Entry 32) (id : Fin 32) : List (Fin 32) → List (Fin 32)
  | [] => [id]
  | other :: rest =>
    if table[id].due.toNat ≤ table[other].due.toNat then id :: other :: rest
    else other :: insertByDue table id rest

/-- The entries with a property in firing order: ascending due stamp, then ascending id (R80). -/
def firingOrder (table : Vector Entry 32) (f : Entry → Bool) : List (Fin 32) :=
  (allEntries.filter fun id => f table[id]).foldr (insertByDue table) []

/-- An entry is due: ARMED, its due stamp reached, and in HELD and BACKUP backup-eligible (R80, R89). -/
def State.isDue (s : State) (e : Entry) : Bool :=
  e.state == .armed && decide (e.due.toNat ≤ s.time.clock.toNat) &&
  match s.control.op with
  | .active => true
  | .held | .backup => e.backupEligible
  | .powerOnHold | .unpowered => false

/-! ## SCHED_READ, SCHED_SUMMARY (R78, R79) -/

/-- The 51 bytes of an entry (R78). -/
def Entry.bytes (e : Entry) (id : Fin 32) : List Byte :=
  let config := bit e.relative ||| (bit e.burst <<< 1) ||| (bit e.backupEligible <<< 2) |||
    (bit e.period.isSome <<< 4) ||| (bit e.budget.isSome <<< 5)
  let notes := bit e.lastFired.isSome ||| (bit e.remaining.isSome <<< 1) ||| (bit e.epochEnded <<< 2) |||
    (bit e.clamped <<< 3)
  let period := e.period.getD 0
  let actions := e.actions.flatMap Action.encode
  [byteOf id.val, e.state.code, config, notes] ++ Stamp.bytes e.due ++
  be24 (period.extractLsb' 10 24) ++ be16 ((period.extractLsb' 0 10).setWidth 16) ++ be16 (e.budget.getD 0) ++
  be16 e.fires ++ be16 e.missed ++ [e.refused] ++ optStampBytes e.lastFired ++ optStampBytes e.remaining ++
  [byteOf e.actions.length] ++ actions ++ List.replicate (16 - actions.length) 0

/-- SCHED_READ (R78). -/
def reqSchedRead (p : List Byte) (s : State) : Reply :=
  let id := (byteAt p 0).toNat
  ({ range := decide (31 < id) } : Checks).guard s
    (match finOf 32 id with
      | some i => .answer s .ok (s.sched[i].bytes i)
      | none => .answer s .range [])

/-- The map of the entries in a state: bit i is entry i (R79). -/
def State.stateMap (s : State) (k : EntryState) : BitVec 32 :=
  allEntries.foldl (fun m id => if s.sched[id].state = k then m ||| BitVec.twoPow 32 id.val else m) 0

/-- The next entry: the ARMED entry that comes first in firing order, eligible or not (R79). -/
def State.nextEntry (s : State) : Option (Fin 32) := (firingOrder s.sched fun e => e.state == .armed).head?

/-- SCHED_SUMMARY's payload (R79). -/
def State.summaryPayload (s : State) : List Byte :=
  be32 (s.stateMap .armed) ++ be32 (s.stateMap .paused) ++ be32 (s.stateMap .spent) ++
  match s.nextEntry with
  | some id => [1, byteOf id.val] ++ Stamp.bytes s.sched[id].due
  | none => List.replicate 8 0

/-- SCHED_SUMMARY (R79). -/
def reqSchedSummary (_ : List Byte) (s : State) : Reply := .answer s .ok s.summaryPayload

/-! ## Periods, budgets and catch-up (R84 to R87) -/

/-- An entry that becomes SPENT: it keeps its due stamp and counts, its budget, if it has one, is then 0 (R84, log entry 16),
and its epoch-ended note is set if the epoch end is why (R87). -/
def Entry.spend (e : Entry) (epochEnded : Bool) : Entry :=
  { e with state := .spent, budget := e.budget.map fun _ => 0, epochEnded := e.epochEnded || epochEnded }

/-- An entry that passes over `n` occurrences: counted as missed, saturating, and taken from the budget (R85, R86). -/
def Entry.passOver (e : Entry) (n : Nat) : Entry :=
  { e with missed := satAdd e.missed n, budget := e.budget.map fun b => BitVec.ofNat 16 (b.toNat - n) }

/-- An entry with its next occurrence at a count of ticks. -/
def Entry.dueAt (e : Entry) (n : Nat) : Entry := { e with due := BitVec.ofNat 42 n }

/-- The advance of a SKIP entry that is behind by `k` occurrences of a period `p` (R85). -/
def Entry.skip (e : Entry) (p k : Nat) : Entry :=
  let next := e.due.toNat + (k + 1) * p
  let whole := if beyondEnd next then (e.passOver k).spend true else (e.passOver k).dueAt next
  match e.budget with
  | none => whole
  | some b => if b.toNat ≤ k then (e.passOver b.toNat).spend false else whole

/-- The advance of a BURST entry that is behind by `k` occurrences of a period `p` (R86). -/
def Entry.burstOn (e : Entry) (p k : Nat) : Entry :=
  if k ≤ 64 then e.dueAt (e.due.toNat + p)
  else
    let n := match e.budget with
      | none => k - 64
      | some b => min (k - 64) b.toNat
    let e' := e.passOver n
    if e'.budget = some 0 then e'.spend false else e'.dueAt (e.due.toNat + (k - 63) * p)

/-- The advance of an entry after a fire at clock value `c` (R84). -/
def Entry.advance (e : Entry) (c : Stamp) : Entry :=
  match e.period with
  | none => e.spend false
  | some period =>
    let p := period.toNat
    let next := e.due.toNat + p
    if e.budget = some 0 then e.spend false
    else if beyondEnd next then e.spend true
    else if c.toNat < next then e.dueAt next
    else
      let k := (c.toNat - e.due.toNat) / p
      if e.burst then e.burstOn p k else e.skip p k

/-! ## The fire of an entry (R69, R70, R81, R82, R90) -/

/-- What becomes of an action of a fire (R81 step 1). -/
inductive ActionOutcome where
  | performed | refused | suppressed
  deriving DecidableEq, Repr

/-- Whether an action will be performed, refused (R70) or suppressed (R90), by the lines and the operating state at the start
of the fire. -/
def State.outcomeOf (s : State) (a : Action) : ActionOutcome :=
  match a with
  | .journal _ | .notify => .performed
  | .outputLevel line _ | .outputPulse line _ _ =>
    if s.control.op ≠ .active then .suppressed
    else if s.outputs[line].owner ≠ .schedule ∨ s.outputs[line].forced then .refused
    else .performed
  | .counterStart _ _ | .counterStop _ => if s.control.op ≠ .active then .suppressed else .performed

/-- The effect of a performed action (R69); `body` and `flags` are those of a SCHEDULE_FIRE record of this fire. -/
def State.act (s : State) (id : Fin 32) (fires : BitVec 16) (flags : RecordFlags) (a : Action) : State :=
  match a with
  | .journal userTag => s.append (.scheduleFire id userTag fires) flags
  | .notify => s.raise .schedule
  | .outputLevel line level => s.modLine line fun l => l.write level
  | .outputPulse line level width => s.modLine line fun l => l.startPulse level width
  | .counterStart counter force => s.modCounter counter (if force then Counter.startForce else Counter.start)
  | .counterStop counter => s.modCounter counter Counter.stop

/-- A fire of an entry at a clock value is late: the clock is more than 1 tick past the due stamp, and the entry was not armed or
resumed with a RELATIVE interval of 0 since the last boundary (R82; log entry 31). -/
def Entry.firesLate (e : Entry) (clock : Stamp) : Bool := !e.atOnce && decide (e.due.toNat + 1 < clock.toNat)

/-- The fire of one entry, steps 1 to 6 of R81. -/
def State.fireEntry (s : State) (id : Fin 32) : State :=
  let e := s.sched[id]
  let c := s.time.clock
  let settled := e.actions.map fun a => (a, s.outcomeOf a)
  let flags : RecordFlags :=
    { epoch := false
      suppressed := settled.any fun x => x.2 == .suppressed
      refused := settled.any fun x => x.2 == .refused
      late := e.firesLate c }
  let fires := satAdd e.fires 1
  let s := s.modEntry id fun e => { e with fires := fires, lastFired := some c, atOnce := false }
  let s := settled.foldl (fun s x => if x.2 = .performed then s.act id fires flags x.1 else s) s
  s.modEntry id fun e =>
    ({ e with
        refused := satAdd e.refused (settled.countP fun x => x.2 == .refused)
        budget := e.budget.map fun b => b - 1 } : Entry).advance c

/-- Step (f) of a boundary: every due entry fires once, in firing order; the set is fixed at the start (R80). An entry armed or
resumed with interval 0 has then had its following boundary (R82). -/
def State.stepF (s : State) : State :=
  let s := (firingOrder s.sched s.isDue).foldl State.fireEntry s
  s.setSched (s.sched.map fun e => { e with atOnce := false })

/-- SCHED_ARM. -/
def execSchedArm (s : State) : Host.Outcome State Fault Refusal := .next (s.perform (ofKind .schedArm) reqSchedArm)

/-- SCHED_PAUSE. -/
def execSchedPause (s : State) : Host.Outcome State Fault Refusal := .next (s.perform (ofKind .schedPause) reqSchedPause)

/-- SCHED_RESUME. -/
def execSchedResume (s : State) : Host.Outcome State Fault Refusal := .next (s.perform (ofKind .schedResume) reqSchedResume)

/-- SCHED_CANCEL. -/
def execSchedCancel (s : State) : Host.Outcome State Fault Refusal := .next (s.perform (ofKind .schedCancel) reqSchedCancel)

/-- SCHED_READ. -/
def execSchedRead (s : State) : Host.Outcome State Fault Refusal := .next (s.perform (ofKind .schedRead) reqSchedRead)

/-- SCHED_SUMMARY. -/
def execSchedSummary (s : State) : Host.Outcome State Fault Refusal :=
  .next (s.perform (ofKind .schedSummary) reqSchedSummary)

/-- FIRE, a piece of step (f): a due entry fires; nothing happens for an entry that is not due (log entry 6). -/
def execFire (entry : Nat) (s : State) : Host.Outcome State Fault Refusal :=
  match finOf 32 entry with
  | some id => .next (if s.isDue s.sched[id] then s.fireEntry id else s)
  | none => .fault .noSuchEntry

end Sys2Proof.Machine
end

