-- ==== Sys2Proof/Machine/Sense.lean ====
section
/-! DEFINITION. The sense inputs: the rate-window close of step (b) (R123), the sampling, filter and qualifying edges of
step (c) (R117 to R126), and SENSE_READ (R128). -/

namespace Sys2Proof.Machine

/-- The eight lines, in ascending order. -/
def allSense : List (Fin 8) := [0, 1, 2, 3, 4, 5, 6, 7]

/-- Changes one sense line. -/
def State.modSense (s : State) (n : Fin 8) (f : SenseLine → SenseLine) : State :=
  s.setSense (s.sense.set n.val (f s.sense[n]))

/-! ## Rate windows (R121, R123) -/

/-- A boundary is a rate-window boundary when uptime after step (a) is a multiple of 1024 (R49). -/
def State.atRateWindow (s : State) : Bool := s.time.uptime.toNat % 1024 == 0

/-- The close of one line's window: a SENSE_SUPPRESSED record if edges were suppressed (R123). -/
def State.closeWindow (s : State) (n : Fin 8) : State :=
  if s.sense[n].windowSuppressed = 0 then s else s.record (.senseSuppressed n s.sense[n].windowSuppressed)

/-- Step (b) of a rate-window boundary: each line's close, S0 to S7, then every count back to 0 (R123). -/
def State.stepB (s : State) : State :=
  let s := allSense.foldl State.closeWindow s
  s.setSense (s.sense.map fun l => { l with windowEvents := 0, windowSuppressed := 0 })

/-! ## Sampling and the filter (R117 to R119, R126) -/

/-- The line is sampled, not frozen, at the present boundary (R117). -/
def State.sampled (s : State) (n : Fin 8) : Bool :=
  s.settings.senseEdgeMode n &&
  match s.control.op with
  | .active => true
  | .held | .backup => s.settings.senseWatch n
  | .powerOnHold | .unpowered => false

/-- The filter restart at a sample (R119). -/
def SenseLine.doRestart (l : SenseLine) (sample : Bool) : SenseLine :=
  { l with raw := sample, filtered := sample, candidate := none, stable := 0, restart := false }

/-- The filter on a sample, up to the confirmation (R118, the table of cases). -/
def SenseLine.filter (l : SenseLine) (sample : Bool) : SenseLine :=
  if sample = l.filtered then { l with raw := sample, candidate := none, stable := 0 }
  else if l.candidate = some sample then { l with raw := sample, stable := l.stable + 1 }
  else { l with raw := sample, candidate := some sample, stable := 1 }

/-- The change of the line is confirmed: a candidate is present and the stable count exceeds F (R118). -/
def SenseLine.confirmed (l : SenseLine) (f : Nat) : Bool := l.candidate.isSome && decide (f < l.stable)

/-- The confirmed change to a level: the filtered level takes it, the candidate goes and the count returns to 0 (R118). -/
def SenseLine.confirm (l : SenseLine) (level : Bool) : SenseLine :=
  { l with filtered := level, candidate := none, stable := 0 }

/-! ## Qualifying edges (R120 to R125) -/

/-- A confirmed change to a level matches the edge setting (R120). -/
def Edges.qualifies : Edges → Bool → Bool
  | .rise, level => level
  | .fall, level => !level
  | .both, _ => true

/-- The edge is recorded, not suppressed, against rate limit `limit` (R121). -/
def SenseLine.recordsEdge (l : SenseLine) (limit : Nat) : Bool :=
  limit == 0 || decide (l.windowEvents - l.windowSuppressed < limit)

/-- The window counts after a qualifying edge (R121). -/
def SenseLine.countEdge (l : SenseLine) (recorded : Bool) : SenseLine :=
  { l with
    windowEvents := l.windowEvents + 1
    windowSuppressed := if recorded then l.windowSuppressed else l.windowSuppressed + 1 }

/-- The captured value, in the 16-bit form (R122, R138). -/
def State.captured (s : State) : Capture → BitVec 16
  | .none => 0
  | .c0 => form16 s.counters[0].value
  | .c1 => form16 s.counters[1].value

/-- A qualifying edge to a level (R120): its source event, its judgement, its record and its occurrence, in that order. -/
def State.qualifyingEdge (s : State) (n : Fin 8) (level : Bool) : State :=
  let recorded := s.sense[n].recordsEdge (s.settings.senseRate n).toNat
  let s := s.setSignals { s.signals with edges := s.signals.edges ||| BitVec.twoPow 8 n.val }
  let s := s.modSense n fun l => l.countEdge recorded
  if recorded then
    let capture := s.settings.senseCapture n
    let s := s.record (.senseEdge n level (s.settings.senseFilter n) capture (s.captured capture))
    if s.settings.senseNotify n then s.raise .sense else s
  else s

/-- A confirmed change of a line to a level (R118, R120). -/
def State.confirmedChange (s : State) (n : Fin 8) (level : Bool) : State :=
  let s := s.modSense n fun l => l.confirm level
  if (s.settings.senseEdges n).qualifies level then s.qualifyingEdge n level else s

/-- The confirmed change of a line whose stable count has come to exceed F; nothing otherwise (R118). -/
def State.confirmIfDue (s : State) (n : Fin 8) : State :=
  match s.sense[n].candidate with
  | some level => if (s.settings.senseFilter n).toNat < s.sense[n].stable then s.confirmedChange n level else s
  | none => s

/-! ## Step (c) of a boundary (R50, R117) -/

/-- One line's turn in step (c), with the level at its pin: the restart mark of a line that has become EDGE (R119, R126; log
entry 17), then, if the line is sampled, the restart or the filter with what it confirms (R117, R118). -/
def State.senseLine (pins : BitVec 8) (s : State) (n : Fin 8) : State :=
  let s := if s.settings.senseEdgeMode n && !s.sense[n].lastEdge then
      s.modSense n fun l => { l with restart := true } else s
  if s.sampled n then
    let sample := pins.getLsbD n.val
    if s.sense[n].restart then s.modSense n fun l => l.doRestart sample
    else (s.modSense n fun l => l.filter sample).confirmIfDue n
  else s

/-- Step (c): the lines S0 to S7 one after another, then every line's mode in force is stored (R117, R126). -/
def State.stepC (pins : BitVec 8) (s : State) : State :=
  let s := allSense.foldl (State.senseLine pins) s
  s.setSense (Vector.ofFn fun n => { s.sense[n] with lastEdge := s.settings.senseEdgeMode n })

/-! ## SENSE_READ (R128) -/

/-- The byte whose bit n is a property of line n (R128). -/
def State.senseMap (s : State) (f : SenseLine → Bool) : Byte :=
  allSense.foldl (fun b n => b ||| (bit (f s.sense[n]) <<< n.val)) 0

/-- SENSE_READ's payload (R128). -/
def State.senseReadPayload (s : State) : List Byte :=
  [s.senseMap (·.raw), s.senseMap (·.filtered), s.senseMap (·.candidate.isSome), s.senseMap (·.restart)] ++
  be16n (s.time.uptime.toNat % 1024) ++
  allSense.flatMap fun n => be16n s.sense[n].windowEvents ++ be16n s.sense[n].windowSuppressed

/-- SENSE_READ is never refused and changes no state (R128). -/
def reqSenseRead (_ : List Byte) (s : State) : Reply := .answer s .ok s.senseReadPayload

/-- SENSE_READ. -/
def execSenseRead (s : State) : Host.Outcome State Fault Refusal := .next (s.perform (ofKind .senseRead) reqSenseRead)

/-- RATE_WINDOW_CLOSE, a piece of step (b): only where boundaries take place and uptime stands at a rate-window boundary (log
entry 6). -/
def execRateWindowClose (s : State) : Host.Outcome State Fault Refusal :=
  .next (if s.running && s.atRateWindow then s.stepB else s)

/-- The next sample of a line that differs from its filtered level would confirm the change: the line is sampled, has no
restart to make, neither a marked one nor that of a line whose mode has become EDGE since the last boundary (R119, R126), and
its stable count then exceeds F (R118). -/
def State.changeDue (s : State) (n : Fin 8) : Bool :=
  s.sampled n && s.sense[n].lastEdge && !s.sense[n].restart &&
  (s.sense[n].filter (!s.sense[n].filtered)).confirmed (s.settings.senseFilter n).toNat

/-- CONFIRMED_CHANGE, a piece of step (c): the sample that confirms the change of a line, with all that the change does;
nothing happens when the next differing sample would not confirm one (log entry 6). -/
def execConfirmedChange (line : Nat) (s : State) : Host.Outcome State Fault Refusal :=
  match finOf 8 line with
  | some n =>
    .next (if s.changeDue n then (s.modSense n fun l => l.filter (!l.filtered)).confirmIfDue n else s)
  | none => .fault .noSuchLine

end Sys2Proof.Machine
end

