-- ==== Sys2Proof/Machine/Supervisor.lean ====
section
/-! DEFINITION. The host supervisor: WD_START, WD_FEED, WD_STOP and WD_STATUS (R158 to R161, R171), and step (g) of a boundary
with the timed transitions (R157, R162 to R165). -/

namespace Sys2Proof.Machine

/-! ## Requests -/

/-- WD_START: from DORMANT to WATCHING with fresh timers and token 0 (R158). -/
def State.wdStart (s : State) : State :=
  (s.setWd { s.wd with state := .watching, elapsed := 0, silence := 0, timer := 0, token := 0, goodRun := 0 }).stage
    s.wd.state .start

/-- WD_START (R158). -/
def reqWdStart (_ : List Byte) (s : State) : Reply :=
  ({ state := s.wd.state != .dormant, range := decide (s.settings.wdTimeout ≤ s.settings.wdWindow) } : Checks).guard s
    (.answer s.wdStart .ok [])

/-- WD_STOP: to DORMANT, every value but the stage timer kept (R159). -/
def State.wdStop (s : State) : State := (s.setWd { s.wd with state := .dormant, timer := 0 }).stage s.wd.state .stop

/-- WD_STOP (R159); SUSPENDED is met by no request (R169). -/
def reqWdStop (_ : List Byte) (s : State) : Reply :=
  ({ locked := s.control.locks.supervisor
     state := match s.wd.state with
       | .watching | .warned | .rearm => false
       | .dormant | .resetting | .holding | .suspended => true } : Checks).guard s
    (.answer s.wdStop .ok [])

/-- The supervisor after a good feed in WATCHING (R160, R166). -/
def Supervisor.goodFeed (w : Supervisor) : Supervisor :=
  let run := if w.goodRun < 16 then w.goodRun + 1 else w.goodRun
  { w with
    elapsed := 0
    token := w.token + 1
    goodRun := run
    hostResets := if w.goodRun < 16 ∧ run = 16 then 0 else w.hostResets }

/-- The answer to a bad feed: the state it left the supervisor in, and the reason (R160). -/
def feedFault (s : State) (reason : WdReason) : Reply := .answer s .feedFault [s.wd.state.code, reason.code]

/-- WD_FEED, by the supervisor's state (R160, R161). -/
def reqWdFeed (p : List Byte) (s : State) : Reply :=
  let right := byteAt p 0 == s.wd.token
  match s.wd.state with
  | .watching =>
    if !right then feedFault (s.enterWarned .token) .token
    else if s.wd.elapsed.toNat < s.settings.wdWindow then feedFault (s.enterWarned .early) .early
    else .answer (s.setWd s.wd.goodFeed) .ok [s.wd.token + 1]
  | .warned | .rearm =>
    if right then .answer s.feedBack .ok [s.wd.token + 1]
    else feedFault (s.enterResetting .token) .token
  | .dormant | .resetting | .holding | .suspended => .answer s .state []

/-- The stage remaining that WD_STATUS reports (R171). -/
def State.stageRemaining (s : State) : Nat :=
  match s.wd.state with
  | .watching => s.settings.wdTimeout - s.wd.elapsed.toNat
  | .warned | .resetting | .rearm => s.wd.timer.toNat
  | .dormant | .holding | .suspended => 0

/-- WD_STATUS's payload (R171). -/
def State.wdStatusPayload (s : State) : List Byte :=
  [s.wd.state.code] ++ be16n s.wd.elapsed.toNat ++ be16n s.stageRemaining ++
  [s.wd.token, byteOf s.wd.hostResets, byteOf s.wd.goodRun, s.wd.silence]

/-- WD_STATUS is never refused and changes no state (R171). -/
def reqWdStatus (_ : List Byte) (s : State) : Reply := .answer s .ok s.wdStatusPayload

/-! ## Step (g) of a boundary -/

/-- The supervisor's timers at a beat, by its state (R157). -/
def Supervisor.count (w : Supervisor) : Supervisor :=
  match w.state with
  | .watching => { w with elapsed := w.elapsed + 1, silence := satAdd w.silence 1 }
  | .warned | .resetting | .rearm => { w with timer := w.timer - 1 }
  | .dormant | .holding | .suspended => w

/-- The timed transitions (R162 to R165). -/
inductive WdTimed where
  | timeout | silence | grace | pulseEnd | boot
  deriving DecidableEq, Repr

/-- Which timed transition the timers of a supervisor that has just counted call for, if any: at most one, and the timeout
before the silence (R157, R162). -/
def State.timedDue (s : State) : Option WdTimed :=
  match s.wd.state with
  | .watching =>
    if s.wd.elapsed.toNat = s.settings.wdTimeout then some .timeout
    else if s.settings.wdSilence ≠ 0 ∧ s.settings.wdSilence ≤ s.wd.silence.toNat then some .silence
    else none
  | .warned => if s.wd.timer = 0 then some .grace else none
  | .resetting => if s.wd.timer = 0 then some .pulseEnd else none
  | .rearm => if s.wd.timer = 0 then some .boot else none
  | .dormant | .holding | .suspended => none

/-- A timed transition (R162 to R165). -/
def State.timed (s : State) : WdTimed → State
  | .timeout => s.enterWarned .timeout
  | .silence => s.enterWarned .silence
  | .grace => s.enterResetting .grace
  | .pulseEnd => s.enterRearm .pulseEnd
  | .boot => s.enterResetting .boot

/-- The work of a beat in ACTIVE: the timers count, then the timed transition they call for (R157). -/
def State.beat (s : State) : State :=
  let s := s.setWd s.wd.count
  match s.timedDue with
  | some t => s.timed t
  | none => s

/-- Step (g) of a boundary: at a beat, in ACTIVE (R49, R157). -/
def State.stepG (s : State) : State :=
  if s.control.op = .active ∧ s.time.uptime.toNat % 64 = 0 then s.beat else s

/-- The next beat makes this timed transition, in ACTIVE (R157). -/
def State.beatMakes (s : State) (t : WdTimed) : Bool :=
  s.control.op == .active && (s.setWd s.wd.count).timedDue == some t

/-- The beat that makes a timed transition; nothing happens when the next beat does not make it (log entry 6). -/
def State.beatOf (s : State) (t : WdTimed) : State := if s.beatMakes t then s.beat else s

/-- WD_START. -/
def execWdStart (s : State) : Host.Outcome State Fault Refusal := .next (s.perform (ofKind .wdStart) reqWdStart)

/-- WD_FEED. -/
def execWdFeed (s : State) : Host.Outcome State Fault Refusal := .next (s.perform (ofKind .wdFeed) reqWdFeed)

/-- WD_STOP. -/
def execWdStop (s : State) : Host.Outcome State Fault Refusal := .next (s.perform (ofKind .wdStop) reqWdStop)

/-- WD_STATUS. -/
def execWdStatus (s : State) : Host.Outcome State Fault Refusal := .next (s.perform (ofKind .wdStatus) reqWdStatus)

/-- TIMEOUT, a piece of step (g) (R162). -/
def execTimeout (s : State) : Host.Outcome State Fault Refusal := .next (s.beatOf .timeout)

/-- SILENCE, a piece of step (g) (R162). -/
def execSilence (s : State) : Host.Outcome State Fault Refusal := .next (s.beatOf .silence)

/-- GRACE, a piece of step (g) (R164). -/
def execGrace (s : State) : Host.Outcome State Fault Refusal := .next (s.beatOf .grace)

/-- PULSE_END, a piece of step (g) (R165). -/
def execPulseEnd (s : State) : Host.Outcome State Fault Refusal := .next (s.beatOf .pulseEnd)

/-- BOOT, a piece of step (g) (R165). -/
def execBoot (s : State) : Host.Outcome State Fault Refusal := .next (s.beatOf .boot)

end Sys2Proof.Machine
end

