-- ==== Sys2Proof/Machine/Boundary.lean ====
section
/-! DEFINITION. The tick boundary: steps (a) to (h) in their order (R50), and the restore qualification that follows in BACKUP
(R184). -/

namespace Sys2Proof.Machine

/-- Step (b) of a boundary, where it is a rate-window boundary (R49, R50). -/
def State.stepBIfDue (s : State) : State := if s.atRateWindow then s.stepB else s

/-- Steps (a) to (h) of a boundary at which the sense pins stand at given levels (R50); the marks that one step hands to a
later one last only within the boundary (R125, R132). -/
def State.boundary (s : State) (pins : BitVec 8) : State :=
  let s := s.stepA
  let s := s.stepBIfDue
  let s := (s.setSignals .none).stepC pins
  let s := s.stepD
  let s := s.stepE
  let s := s.stepF
  let s := s.stepG
  s.recompute.setSignals .none

/-- The reading of VMAIN after step (h) of a boundary in BACKUP (R184): the restore count, and at 66 the return (R187). -/
def State.qualify (s : State) (vmainGood : Bool) : State :=
  if s.control.op = .backup then
    if vmainGood then
      if Config.restoreTicks ≤ s.control.restoreCount + 1 then s.returnFromBackup
      else s.setControl { s.control with restoreCount := s.control.restoreCount + 1 }
    else s.setControl { s.control with restoreCount := 0 }
  else s

/-- TICK_BOUNDARY (R50) with the qualification that follows it (log entry 11); no boundary takes place in power-on hold or
without a supply (R188). -/
def State.tickBoundary (s : State) (pins : BitVec 8) (vmainGood : Bool) : State :=
  if s.running then (s.boundary pins).qualify vmainGood else s

/-- TICK_BOUNDARY. -/
def execTickBoundary (sense : BitVec 8) (vmainGood : Bool) (s : State) : Host.Outcome State Fault Refusal :=
  .next (s.tickBoundary sense vmainGood)

end Sys2Proof.Machine
end

