-- ==== Sys2Proof/Machine/Device.lean ====
section
/-! DEFINITION. The requests of the link and device group: DEVICE_INFO, DEVICE_RESET of either scope, SETTING_READ,
SETTING_WRITE, LOCK and LINK_STATS (R34 to R43, R190). -/

namespace Sys2Proof.Machine

/-- DEVICE_INFO's payload (R34). -/
def deviceInfoPayload : List Byte :=
  [0x03, 0x40, 1, 32, 0x01, 0x00, 240, 16, 8, 6, 2, 4, 4]

/-- DEVICE_INFO is never refused and changes no state (R34). -/
def reqDeviceInfo (_ : List Byte) (s : State) : Reply := .answer s .ok deviceInfoPayload

/-- The checks of DEVICE_RESET (R190): FULL in HOLDING is refused with STATE, an undefined scope with RANGE. -/
def deviceResetChecks (p : List Byte) (s : State) : Checks :=
  { state := byteAt p 0 == 1 && s.wd.state == .holding, range := decide (1 < (byteAt p 0).toNat) }

/-- DEVICE_RESET of scope LINK: one link flush, and no response (R190). -/
def reqDeviceResetLink (p : List Byte) (s : State) : Reply :=
  (deviceResetChecks p s).guard s (.silent s.flush)

/-- DEVICE_RESET of scope FULL: one link flush, then the release with cause REQUEST, and no response (R190). -/
def reqDeviceResetFull (p : List Byte) (s : State) : Reply :=
  (deviceResetChecks p s).guard s (.silent (s.flush.release .request))

/-- SETTING_READ: a run of 1 to 16 stored settings (R36). -/
def reqSettingRead (p : List Byte) (s : State) : Reply :=
  let index := (byteAt p 0).toNat
  let count := (byteAt p 1).toNat
  ({ range := decide (count < 1) || decide (16 < count) || decide (44 < index + count) } : Checks).guard s
    (.answer s .ok ((s.settings.toList.drop index).take count))

/-- A run of settings from an index touches a setting of a lock class (R37). -/
def runTouches (index : Nat) (values : List Byte) (k : LockClass) : Bool :=
  (List.range values.length).any fun i => lockClass (index + i) == k

/-- Every value of a run is in range for its setting, each on its own (R37). -/
def runInRange : Nat → List Byte → Bool
  | _, [] => true
  | i, v :: rest => settingInRange i v && runInRange (i + 1) rest

/-- The checks of SETTING_WRITE (R37, R38). -/
def settingWriteChecks (index : Nat) (values : List Byte) (s : State) : Checks :=
  let timeout := (s.settings.writeRun index values).wdTimeout
  { locked := (runTouches index values .outputs && s.control.locks.outputs) ||
      (runTouches index values .supervisor && s.control.locks.supervisor)
    state := runTouches index values .supervisor && s.wd.state != .dormant
    range := decide (44 < index + values.length) || !runInRange index values || timeout == 0 ||
      decide (4095 < timeout) }

/-- SETTING_WRITE: every touched setting takes its new value, and the lines follow a change of OUT_CFG at once (R37, R145). -/
def reqSettingWrite (p : List Byte) (s : State) : Reply :=
  let index := (byteAt p 0).toNat
  let values := p.drop 1
  (settingWriteChecks index values s).guard s
    (.answer (s.setSettings (s.settings.writeRun index values)).reforce .ok [])

/-- The locks engaged once the set a byte names is engaged as well (R39). -/
def Locks.engage (l : Locks) (set : Byte) : Locks :=
  ⟨l.clock || set.getLsbD 0, l.supervisor || set.getLsbD 1, l.outputs || set.getLsbD 2⟩

/-- LOCK: engages the set, SUPERVISOR only from WATCHING (R39). -/
def reqLock (p : List Byte) (s : State) : Reply :=
  let set := byteAt p 0
  let locks := s.control.locks.engage set
  ({ state := set.getLsbD 1 && !s.control.locks.supervisor && s.wd.state != .watching
     range := set.extractLsb' 3 5 != 0 } : Checks).guard s
    (.answer (s.setControl { s.control with locks := locks }) .ok [locks.byte])

/-- LINK_STATS: the link error counter, which is cleared (R42). -/
def reqLinkStats (_ : List Byte) (s : State) : Reply :=
  .answer (s.setLink { s.link with errors := 0 }) .ok [s.link.errors]

/-- DEVICE_INFO. -/
def execDeviceInfo (s : State) : Host.Outcome State Fault Refusal := .next (s.perform (ofKind .deviceInfo) reqDeviceInfo)

/-- DEVICE_RESET_LINK. -/
def execDeviceResetLink (s : State) : Host.Outcome State Fault Refusal :=
  .next (s.perform (ofSelector .deviceReset 0 0 2) reqDeviceResetLink)

/-- DEVICE_RESET_FULL. -/
def execDeviceResetFull (s : State) : Host.Outcome State Fault Refusal :=
  .next (s.perform (ofSelector .deviceReset 0 1 2) reqDeviceResetFull)

/-- SETTING_READ. -/
def execSettingRead (s : State) : Host.Outcome State Fault Refusal := .next (s.perform (ofKind .settingRead) reqSettingRead)

/-- SETTING_WRITE. -/
def execSettingWrite (s : State) : Host.Outcome State Fault Refusal :=
  .next (s.perform (ofKind .settingWrite) reqSettingWrite)

/-- LOCK. -/
def execLock (s : State) : Host.Outcome State Fault Refusal := .next (s.perform (ofKind .lock) reqLock)

/-- LINK_STATS. -/
def execLinkStats (s : State) : Host.Outcome State Fault Refusal := .next (s.perform (ofKind .linkStats) reqLinkStats)

end Sys2Proof.Machine
end

