-- ==== Sys2Proof/Machine/JournalRequests.lean ====
section
/-! DEFINITION. The journal's requests: JOURNAL_PULL, JOURNAL_ACK, JOURNAL_REWIND, JOURNAL_NOTE and JOURNAL_STATUS (R105,
R107 to R111). -/

namespace Sys2Proof.Machine

/-- The records a pull of at most `max` delivers, as they stand before it: the next ones from the cursor (R107). -/
def Journal.next (j : Journal) (max : Nat) : List Record := (j.records.drop j.cursor).take max

/-- A record as its delivery leaves it: an open LOSS record is closed (R105). -/
def Record.close (r : Record) : Record := { r with opened := false }

/-- The journal after a pull of at most `max` records (R107): the delivered ones closed in place, the cursor past them. -/
def Journal.pull (j : Journal) (max : Nat) : Journal :=
  { j with
    records := j.records.take j.cursor ++ (j.next max).map Record.close ++ (j.records.drop j.cursor).drop max
    cursor := j.cursor + (j.next max).length }

/-- JOURNAL_PULL (R107). -/
def reqJournalPull (p : List Byte) (s : State) : Reply :=
  let max := (byteAt p 0).toNat
  let j := s.journal.pull max
  ({ range := decide (max < 1) || decide (3 < max) } : Checks).guard s
    (.answer (s.setJournal j) .ok
      (byteOf (s.journal.next max).length :: be16n j.undelivered ++
        (s.journal.next max).flatMap fun r => r.close.encode))

/-- A sequence number precedes another: the second minus the first, modulo 65536, is 1 to 32767 (R94). -/
def precedes (a b : BitVec 16) : Bool := decide (1 ≤ (b - a).toNat) && decide ((b - a).toNat ≤ 32767)

/-- The sequence number of the head, or the next one if the journal is empty (R108). -/
def Journal.headSeq (j : Journal) : BitVec 16 :=
  match j.records with
  | [] => j.nextSeq
  | r :: _ => r.seq

/-- The sequence number of the record at the cursor, or the next one if the cursor is at the tail (R108). -/
def Journal.cursorSeq (j : Journal) : BitVec 16 :=
  match j.records[j.cursor]? with
  | some r => r.seq
  | none => j.nextSeq

/-- The number of records an acknowledgement of `n` removes, absent when it is refused (R108). -/
def Journal.ackCount (j : Journal) (n : BitVec 16) : Option Nat :=
  if (n - j.headSeq).toNat < (j.cursorSeq - j.headSeq).toNat then
    some (j.records.takeWhile fun r => r.seq == n || precedes r.seq n).length
  else if precedes n j.headSeq then some 0
  else none

/-- The journal with its first `n` records removed; the cursor goes on marking the record it marked (R108). -/
def Journal.removeFirst (j : Journal) (n : Nat) : Journal :=
  { j with records := j.records.drop n, cursor := j.cursor - n }

/-- JOURNAL_ACK (R108). -/
def reqJournalAck (p : List Byte) (s : State) : Reply :=
  match s.journal.ackCount (u16At p 0) with
  | some n => .answer (s.setJournal (s.journal.removeFirst n)) .ok (be16n n)
  | none => .answer s .range []

/-- JOURNAL_REWIND moves the cursor to the head and is never refused (R109). -/
def reqJournalRewind (_ : List Byte) (s : State) : Reply :=
  .answer (s.setJournal { s.journal with cursor := 0 }) .ok (be16n s.journal.records.length)

/-- JOURNAL_NOTE makes one HOST_NOTE record of the six bytes and answers what became of it (R110). -/
def reqJournalNote (p : List Byte) (s : State) : Reply :=
  let a := s.appendInfo (.hostNote (u48At p 0)) .none
  .answer a.1 .ok (match a.2.seq with | some n => 1 :: be16 n | none => [0, 0, 0])

/-- JOURNAL_STATUS's payload (R111). -/
def State.journalStatusPayload (s : State) : List Byte :=
  let j := s.journal
  be16n j.records.length ++ be16n j.undelivered ++ [byteOf (j.used .general), byteOf (j.used .system)] ++
  be16 j.nextSeq ++ [bit s.settings.keepNewest, bit (!j.records.isEmpty) ||| (bit j.hasOpen <<< 1)] ++
  be16 (match j.records with | [] => 0 | r :: _ => r.seq) ++ be16 j.cursorSeq ++
  be16 (match j.records.find? fun r => r.opened with | some r => r.seq | none => 0)

/-- JOURNAL_STATUS is never refused and changes no state (R111). -/
def reqJournalStatus (_ : List Byte) (s : State) : Reply := .answer s .ok s.journalStatusPayload

/-- JOURNAL_PULL. -/
def execJournalPull (s : State) : Host.Outcome State Fault Refusal := .next (s.perform (ofKind .journalPull) reqJournalPull)

/-- JOURNAL_ACK. -/
def execJournalAck (s : State) : Host.Outcome State Fault Refusal := .next (s.perform (ofKind .journalAck) reqJournalAck)

/-- JOURNAL_REWIND. -/
def execJournalRewind (s : State) : Host.Outcome State Fault Refusal :=
  .next (s.perform (ofKind .journalRewind) reqJournalRewind)

/-- JOURNAL_NOTE. -/
def execJournalNote (s : State) : Host.Outcome State Fault Refusal := .next (s.perform (ofKind .journalNote) reqJournalNote)

/-- JOURNAL_STATUS. -/
def execJournalStatus (s : State) : Host.Outcome State Fault Refusal :=
  .next (s.perform (ofKind .journalStatus) reqJournalStatus)

end Sys2Proof.Machine
end

