-- ==== Sys2Proof/Machine/Link.lean ====
section
/-! DEFINITION. The host link's own events: NCS_FALL fixes the up-frame image (R4 to R6), NCS_RISE receives and judges the
down-frame (R7 to R15, R19 to R21). -/

namespace Sys2Proof.Machine

/-! ## The up-frame (R4, R5, R16) -/

/-- Bytes 0 to 3+M of the up-frame that the state shows: status, verdict, and the head response or the empty one (R5, R16). -/
def State.upFrameBody (s : State) : List Byte :=
  let verdict : Byte := s.link.verdict.code ++ s.link.verdictTag
  match s.link.responses with
  | [] => [s.statusByte, verdict, 0, 0]
  | r :: _ => [s.statusByte, verdict, r.tag ++ r.result.code, byteOf r.payload.length] ++ r.payload

/-- The up-frame image: the body and its CRC-8 (R4, R5). -/
def State.upFrame (s : State) : List Byte := s.upFrameBody ++ [crc8 s.upFrameBody]

/-- NCS_FALL (R3, R4): with nCS high, a transaction begins; it is RECEIVING with the image fixed and the receive record
cleared, or DISCARDING if the link is inert (R24). nCS cannot fall while it is low (log entry 5). -/
def State.ncsFall (s : State) : State :=
  match s.link.txn with
  | .idle =>
    if s.control.op = .active then
      s.setLink { s.link with txn := .receiving, image := s.upFrame, rx := .clear }
    else s.setLink { s.link with txn := .discarding }
  | .receiving | .discarding => s

/-! ## The serial bits (R1) -/

/-- The byte of eight bits, the most significant first (R1). -/
def byteOfBits (b7 b6 b5 b4 b3 b2 b1 b0 : Bool) : Byte :=
  (bit b7 <<< 7) ||| (bit b6 <<< 6) ||| (bit b5 <<< 5) ||| (bit b4 <<< 4) ||| (bit b3 <<< 3) ||| (bit b2 <<< 2) |||
  (bit b1 <<< 1) ||| bit b0

/-- The whole bytes of the bits sampled from SDI since the fall of nCS, eight each; bits left over after the last whole byte
are discarded (R1). -/
def wholeBytes : List Bool → List Byte
  | b7 :: b6 :: b5 :: b4 :: b3 :: b2 :: b1 :: b0 :: rest => byteOfBits b7 b6 b5 b4 b3 b2 b1 b0 :: wholeBytes rest
  | _ => []

/-! ## The down-frame (R7) -/

/-- One whole byte received in RECEIVING (R7): bytes 0 to 2+L enter the running CRC-8, a payload of at most 56 bytes is
kept, byte 3+L is compared with the running CRC-8, and every later byte is ignored. -/
def ReceiveRecord.receive (r : ReceiveRecord) (b : Byte) : ReceiveRecord :=
  let crc := crcByte r.crc b
  if r.count = 0 then { r with count := 1, kind := b, crc := crc }
  else if r.count = 1 then { r with count := 2, tags := b, crc := crc }
  else if r.count = 2 then { r with count := 3, length := b, crc := crc }
  else if r.count < 3 + r.length.toNat then
    { r with
      count := r.count + 1
      payload := if r.length.toNat ≤ Config.maxPayload then r.payload ++ [b] else r.payload
      crc := crc }
  else if r.count = 3 + r.length.toNat then { r with count := r.count + 1, crcMatch := r.crc == b }
  else r

/-- The request tag of the frame, bits 7–4 of byte 1 (R7). -/
def ReceiveRecord.requestTag (r : ReceiveRecord) : Tag := r.tags.extractLsb' 4 4

/-- The acknowledgement tag of the frame, bits 3–0 of byte 1 (R7). -/
def ReceiveRecord.ackTag (r : ReceiveRecord) : Tag := r.tags.extractLsb' 0 4

/-- The request the frame carries, if it keeps every rule of R10: a known kind code with a permitted length, and a tag that
is 0 exactly for POLL. -/
def ReceiveRecord.wellFormedKind (r : ReceiveRecord) : Option Kind :=
  match kindOf r.kind r.length.toNat with
  | some .poll => if r.requestTag = 0 then some .poll else none
  | some k => if r.requestTag = 0 then none else some k
  | none => none

/-! ## Judgement (R9 to R15, R19 to R21) -/

/-- The verdict on a frame of at least one whole byte, with the queue and the last accepted tag as they stand (R9 checks 2
to 8). -/
def judge (l : Link) (r : ReceiveRecord) : Verdict :=
  if r.count < 3 ∨ r.count < 4 + r.length.toNat then .short
  else if !r.crcMatch then .crcFail
  else
    match r.wellFormedKind with
    | none => .malformed
    | some .poll => .poll
    | some _ =>
      if l.lastTag = some r.requestTag then .duplicate
      else if Config.queueCapacity ≤ l.requests.length then .queueFull
      else .accepted

/-- The tag reported with a verdict (R11). -/
def Verdict.reportedTag (v : Verdict) (r : ReceiveRecord) : Tag :=
  match v with
  | .accepted | .duplicate | .queueFull | .malformed => r.requestTag
  | .none | .poll | .crcFail | .short => 0

/-- The frame passed check 3 of R9: it is a valid frame. -/
def Verdict.validFrame : Verdict → Bool
  | .accepted | .poll | .duplicate | .queueFull | .malformed => true
  | .none | .crcFail | .short => false

/-- The frame is a link error (R9, R19). -/
def Verdict.linkError : Verdict → Bool
  | .crcFail | .malformed | .short => true
  | .none | .accepted | .poll | .duplicate | .queueFull => false

/-- The acknowledgement of R15: a tag that is not 0 and is the head response's removes that response. -/
def Link.acknowledge (l : Link) (tag : Tag) : Link :=
  match l.responses with
  | [] => l
  | r :: rest => if tag ≠ 0 ∧ r.tag = tag then { l with responses := rest } else l

/-- The append of an ACCEPTED request, whose tag becomes the last accepted tag (R9 check 8, R14). -/
def Link.accept (l : Link) (r : ReceiveRecord) : Link :=
  match r.wellFormedKind with
  | some k => { l with requests := l.requests ++ [⟨k, r.requestTag, r.payload⟩], lastTag := some r.requestTag }
  | none => l

/-- The judgement of a received down-frame as one event (R9, R12): for a valid frame the acknowledgement and the
valid-frame event, for an ACCEPTED one the append, for a link error the count and the LINK_ERROR occurrence, and always the
pending verdict. -/
def State.judgeFrame (s : State) : State :=
  let r := s.link.rx
  let v := judge s.link r
  let l := if v.validFrame then s.link.acknowledge r.ackTag else s.link
  let l := if v = .accepted then l.accept r else l
  let l := if v.linkError then { l with errors := satAdd l.errors 1 } else l
  let s := s.setLink { l with verdict := v, verdictTag := v.reportedTag r }
  let s := if v.validFrame then s.setWd { s.wd with silence := 0 } else s
  if v.linkError then s.raise .linkError else s

/-- The end of a transaction that brought these whole bytes (R3, R9; log entry 12): a RECEIVING transaction with at least one
is judged, an empty or abandoned one does nothing, and the transaction state becomes IDLE. nCS cannot rise while it is high
(log entry 5). The receive record and the up-frame image stay until the next fall; the spec gives neither any content outside
a transaction (log entry 13). -/
def State.ncsRise (s : State) (bytes : List Byte) : State :=
  match s.link.txn with
  | .idle => s
  | .discarding => s.setLink { s.link with txn := .idle }
  | .receiving =>
    let s := s.setLink { s.link with txn := .idle, rx := bytes.foldl ReceiveRecord.receive s.link.rx }
    if s.link.rx.count = 0 then s else s.judgeFrame

/-- NCS_FALL. -/
def execNcsFall (s : State) : Host.Outcome State Fault Refusal := .next s.ncsFall

/-- NCS_RISE: the bits sampled since the fall make the transaction's whole bytes (R1). -/
def execNcsRise (bits : List Bool) (s : State) : Host.Outcome State Fault Refusal := .next (s.ncsRise (wholeBytes bits))

end Sys2Proof.Machine
end

