-- ==== Sys2Proof/Machine/Notification.lean ====
section
/-! DEFINITION. The notification requests: NOTIFY_ENABLE's two operations, NOTIFY_ACK and NOTIFY_READ (R177 to R179). -/

namespace Sys2Proof.Machine

/-- A mask of causes as its two bytes (R174). -/
def maskBytes (m : BitVec 12) : List Byte := be16 (m.setWidth 16)

/-- NOTIFY_ENABLE with an operation on the enables, given the causes its mask names (R177). -/
def notifyEnable (f : BitVec 12 → BitVec 12 → BitVec 12) (p : List Byte) (s : State) : Reply :=
  let mask := u16At p 0
  let enabled := f s.notify.enabled (mask.setWidth 12)
  ({ range := mask.extractLsb' 12 4 != 0 || decide (1 < (byteAt p 2).toNat) } : Checks).guard s
    (.answer (s.setNotify { s.notify with enabled := enabled }) .ok (maskBytes enabled))

/-- SET enables the causes named (R177). -/
def enableSet (enabled named : BitVec 12) : BitVec 12 := enabled ||| named

/-- CLEAR disables the causes named (R177). -/
def enableClear (enabled named : BitVec 12) : BitVec 12 := enabled &&& ~~~named

/-- The pairs of a NOTIFY_ACK: a cause number and a count-seen each (R179). -/
def ackPairs : List Byte → List (Byte × Byte)
  | cause :: seen :: rest => (cause, seen) :: ackPairs rest
  | _ => []

/-- One pair of an acknowledgement: the pending flag of an event cause is cleared if its count has not moved (R179). -/
def Notification.ackPair (q : Notification) (x : Byte × Byte) : Notification :=
  match finOf 12 x.1.toNat with
  | some n =>
    if isLevelCause n.val = false ∧ q.counts[n] = x.2 then
      { q with pending := q.pending &&& ~~~(BitVec.twoPow 12 n.val) }
    else q
  | none => q

/-- The mask of the causes that a list of pairs names (R179). -/
def namedCauses (pairs : List (Byte × Byte)) : BitVec 12 :=
  pairs.foldl (fun m x => m ||| BitVec.twoPow 12 x.1.toNat) 0

/-- NOTIFY_ACK (R179). -/
def reqNotifyAck (p : List Byte) (s : State) : Reply :=
  let pairs := ackPairs p
  let q := pairs.foldl Notification.ackPair s.notify
  ({ range := pairs.any fun x => decide (11 < x.1.toNat) } : Checks).guard s
    (.answer (s.setNotify q) .ok (maskBytes (q.pending &&& namedCauses pairs)))

/-- NOTIFY_READ is never refused and changes no state (R178). -/
def reqNotifyRead (_ : List Byte) (s : State) : Reply :=
  .answer s .ok (maskBytes s.notify.pending ++ maskBytes s.notify.enabled ++ s.notify.counts.toList)

/-- NOTIFY_ENABLE_SET. -/
def execNotifyEnableSet (s : State) : Host.Outcome State Fault Refusal :=
  .next (s.perform (ofSelector .notifyEnable 2 0 2) (notifyEnable enableSet))

/-- NOTIFY_ENABLE_CLEAR. -/
def execNotifyEnableClear (s : State) : Host.Outcome State Fault Refusal :=
  .next (s.perform (ofSelector .notifyEnable 2 1 2) (notifyEnable enableClear))

/-- NOTIFY_ACK. -/
def execNotifyAck (s : State) : Host.Outcome State Fault Refusal := .next (s.perform (ofKind .notifyAck) reqNotifyAck)

/-- NOTIFY_READ. -/
def execNotifyRead (s : State) : Host.Outcome State Fault Refusal := .next (s.perform (ofKind .notifyRead) reqNotifyRead)

end Sys2Proof.Machine
end

