-- ==== Sys2Proof/Machine/Power.lean ====
section
/-! DEFINITION. The events of the operating states, the supplies and nRST (R182 to R191): ENTER_HELD, RELEASE, ENTER_BACKUP,
RETURN_FROM_BACKUP, POWER_LOSS, POWER_ON_HOLD, POWER_ON_RESET and NRST_READING. -/

namespace Sys2Proof.Machine

/-- nRST has just been recognised at a level (R183). -/
def State.recognise (s : State) (high : Bool) : State := s.setControl { s.control with nrst := ⟨high, 0, high⟩ }

/-- What the part does on the level of nRST that it has recognised (R183). -/
def State.actOnNrst (s : State) : State :=
  match s.control.op, s.control.nrst.recognised with
  | .active, false => s.enterHeld
  | .held, true => s.release .pin
  | _, _ => s

/-- NRST_READING (R183): the second of two equal readings makes the level the recognised one, on which the part acts at once
(log entry 9); without a supply nothing reads. -/
def State.nrstReading (s : State) (high : Bool) : State :=
  if s.control.op = .unpowered then s
  else
    let r := s.control.nrst
    (s.setControl { s.control with nrst := ⟨high, 0, if r.last = high then high else r.recognised⟩ }).actOnNrst

/-- ENTER_HELD: nRST is recognised low in ACTIVE (R183, R185; log entry 8). -/
def State.heldEvent (s : State) : State := if s.control.op = .active then (s.recognise false).enterHeld else s

/-- RELEASE: nRST is recognised high in HELD, or the part stands in ACTIVE with the hold mark set (R183, R187, R189; log
entries 8 and 10). -/
def State.releaseEvent (s : State) : State :=
  if s.control.op = .held then (s.recognise true).release .pin
  else if s.control.op = .active ∧ s.control.holdMark then s.release .pin
  else s

/-- ENTER_BACKUP: a main fail with the backup cell present (R184; log entry 7). In ACTIVE and HELD the part enters BACKUP
(R186). In power-on hold it only extends the hold: the run of RC ticks with VMAIN above the restore threshold is broken, and
begins again (R188, R191). In BACKUP it is no event of its own: the next boundary reads VMAIN (R191). -/
def State.backupEvent (s : State) : State :=
  match s.control.op with
  | .active | .held => s.enterBackup
  | .powerOnHold => s.setControl { s.control with restoreCount := 0 }
  | .backup | .unpowered => s

/-- RETURN_FROM_BACKUP: the restore count has reached 66 (R184, R187; log entry 7). -/
def State.returnFromBackupEvent (s : State) : State := if s.control.op = .backup then s.returnFromBackup else s

/-- POWER_LOSS: the part keeps nothing (R184; log entry 20). nCS is the board's: a transaction during which the part dies is
abandoned (R3). -/
def State.powerLoss (s : State) : State :=
  State.powerOnValues (if s.link.txn = .idle then .idle else .discarding) .unpowered ⟨false, 0, false⟩ s.freeIndex s.pending

/-- POWER_ON_HOLD: a supply rises after both were absent; the first reading of nRST sets the recognised level (R183, R188). -/
def State.powerOnHold (s : State) (nrstHigh : Bool) : State :=
  if s.control.op = .unpowered then
    s.setControl { s.control with op := .powerOnHold, restoreCount := 0, nrst := ⟨nrstHigh, 0, nrstHigh⟩ }
  else s

/-- POWER_ON_RESET: the 66 RC ticks of good VMAIN are complete (R188; log entry 7). -/
def State.powerOnResetEvent (s : State) : State := if s.control.op = .powerOnHold then s.powerOnReset else s

/-- ENTER_HELD. -/
def execEnterHeld (s : State) : Host.Outcome State Fault Refusal := .next s.heldEvent

/-- RELEASE. -/
def execRelease (s : State) : Host.Outcome State Fault Refusal := .next s.releaseEvent

/-- ENTER_BACKUP. -/
def execEnterBackup (s : State) : Host.Outcome State Fault Refusal := .next s.backupEvent

/-- RETURN_FROM_BACKUP. -/
def execReturnFromBackup (s : State) : Host.Outcome State Fault Refusal := .next s.returnFromBackupEvent

/-- POWER_LOSS. -/
def execPowerLoss (s : State) : Host.Outcome State Fault Refusal := .next s.powerLoss

/-- POWER_ON_HOLD. -/
def execPowerOnHold (nrstHigh : Bool) (s : State) : Host.Outcome State Fault Refusal := .next (s.powerOnHold nrstHigh)

/-- POWER_ON_RESET. -/
def execPowerOnReset (s : State) : Host.Outcome State Fault Refusal := .next s.powerOnResetEvent

/-- NRST_READING. -/
def execNrstReading (high : Bool) (s : State) : Host.Outcome State Fault Refusal := .next (s.nrstReading high)

end Sys2Proof.Machine
end

