-- ==== Sys2Proof/Machine/Dispatch.lean ====
section
/-! DEFINITION. One arm per command: each calls its own meaning. -/

namespace Sys2Proof.Machine

/-- The effect of a command on everything but the queue of waiting commands. -/
def exec (i : Instr) (s : State) : Host.Outcome State Fault Refusal :=
  match i with
  | .ncsFall => Sys2Proof.Machine.execNcsFall s
  | .ncsRise bits => Sys2Proof.Machine.execNcsRise bits s
  | .deviceInfo => Sys2Proof.Machine.execDeviceInfo s
  | .deviceResetLink => Sys2Proof.Machine.execDeviceResetLink s
  | .deviceResetFull => Sys2Proof.Machine.execDeviceResetFull s
  | .settingRead => Sys2Proof.Machine.execSettingRead s
  | .settingWrite => Sys2Proof.Machine.execSettingWrite s
  | .lock => Sys2Proof.Machine.execLock s
  | .linkStats => Sys2Proof.Machine.execLinkStats s
  | .timeRead => Sys2Proof.Machine.execTimeRead s
  | .timeSet => Sys2Proof.Machine.execTimeSet s
  | .timeSlew => Sys2Proof.Machine.execTimeSlew s
  | .schedArm => Sys2Proof.Machine.execSchedArm s
  | .schedPause => Sys2Proof.Machine.execSchedPause s
  | .schedResume => Sys2Proof.Machine.execSchedResume s
  | .schedCancel => Sys2Proof.Machine.execSchedCancel s
  | .schedRead => Sys2Proof.Machine.execSchedRead s
  | .schedSummary => Sys2Proof.Machine.execSchedSummary s
  | .journalPull => Sys2Proof.Machine.execJournalPull s
  | .journalAck => Sys2Proof.Machine.execJournalAck s
  | .journalRewind => Sys2Proof.Machine.execJournalRewind s
  | .journalNote => Sys2Proof.Machine.execJournalNote s
  | .journalStatus => Sys2Proof.Machine.execJournalStatus s
  | .senseRead => Sys2Proof.Machine.execSenseRead s
  | .counterStart => Sys2Proof.Machine.execCounterStart s
  | .counterStartForce => Sys2Proof.Machine.execCounterStartForce s
  | .counterStop => Sys2Proof.Machine.execCounterStop s
  | .counterLoad => Sys2Proof.Machine.execCounterLoad s
  | .counterLatch => Sys2Proof.Machine.execCounterLatch s
  | .counterRead => Sys2Proof.Machine.execCounterRead s
  | .outputWrite => Sys2Proof.Machine.execOutputWrite s
  | .outputPulse => Sys2Proof.Machine.execOutputPulse s
  | .outputClaim => Sys2Proof.Machine.execOutputClaim s
  | .outputRead => Sys2Proof.Machine.execOutputRead s
  | .wdStart => Sys2Proof.Machine.execWdStart s
  | .wdFeed => Sys2Proof.Machine.execWdFeed s
  | .wdStop => Sys2Proof.Machine.execWdStop s
  | .wdStatus => Sys2Proof.Machine.execWdStatus s
  | .notifyEnableSet => Sys2Proof.Machine.execNotifyEnableSet s
  | .notifyEnableClear => Sys2Proof.Machine.execNotifyEnableClear s
  | .notifyAck => Sys2Proof.Machine.execNotifyAck s
  | .notifyRead => Sys2Proof.Machine.execNotifyRead s
  | .tickBoundary sense vmainGood => Sys2Proof.Machine.execTickBoundary sense vmainGood s
  | .crystalGood => Sys2Proof.Machine.execCrystalGood s
  | .crystalFailed => Sys2Proof.Machine.execCrystalFailed s
  | .sourceChange => Sys2Proof.Machine.execSourceChange s
  | .epochEnd => Sys2Proof.Machine.execEpochEnd s
  | .rateWindowClose => Sys2Proof.Machine.execRateWindowClose s
  | .confirmedChange line => Sys2Proof.Machine.execConfirmedChange line s
  | .expiry counter => Sys2Proof.Machine.execExpiry counter s
  | .revert line => Sys2Proof.Machine.execRevert line s
  | .fire entry => Sys2Proof.Machine.execFire entry s
  | .timeout => Sys2Proof.Machine.execTimeout s
  | .silence => Sys2Proof.Machine.execSilence s
  | .grace => Sys2Proof.Machine.execGrace s
  | .pulseEnd => Sys2Proof.Machine.execPulseEnd s
  | .boot => Sys2Proof.Machine.execBoot s
  | .enterHeld => Sys2Proof.Machine.execEnterHeld s
  | .release => Sys2Proof.Machine.execRelease s
  | .enterBackup => Sys2Proof.Machine.execEnterBackup s
  | .returnFromBackup => Sys2Proof.Machine.execReturnFromBackup s
  | .powerLoss => Sys2Proof.Machine.execPowerLoss s
  | .powerOnHold nrstHigh => Sys2Proof.Machine.execPowerOnHold nrstHigh s
  | .powerOnReset => Sys2Proof.Machine.execPowerOnReset s
  | .gapLongerThan1Ms => Sys2Proof.Machine.execGapLongerThan1Ms s
  | .nrstReading high => Sys2Proof.Machine.execNrstReading high s

end Sys2Proof.Machine
end

