-- ==== Sys2Proof/Machine/Oscillator.lean ====
section
/-! DEFINITION. The part's own running, when no command waits (log entry 2): the executor performs the head request (R26), or
one oscillator cycle passes (R44, R45, R47, R183, R188). -/

namespace Sys2Proof.Machine

/-! ## The executor on its own (R26) -/

/-- How a request of a kind with a payload is performed: the definitions of the commands, the code's operations told apart by
the selector in the payload (R26, R33). POLL is never queued (R9). -/
def requestBody (k : Kind) (p : List Byte) : List Byte → State → Reply :=
  match k with
  | .poll => fun _ s => .silent s
  | .deviceInfo => reqDeviceInfo
  | .deviceReset => if byteAt p 0 = 0 then reqDeviceResetLink else reqDeviceResetFull
  | .settingRead => reqSettingRead
  | .settingWrite => reqSettingWrite
  | .lock => reqLock
  | .linkStats => reqLinkStats
  | .timeRead => reqTimeRead
  | .timeSet => reqTimeSet
  | .timeSlew => reqTimeSlew
  | .schedArm => reqSchedArm
  | .schedPause => reqSchedPause
  | .schedResume => reqSchedResume
  | .schedCancel => reqSchedCancel
  | .schedRead => reqSchedRead
  | .schedSummary => reqSchedSummary
  | .journalPull => reqJournalPull
  | .journalAck => reqJournalAck
  | .journalRewind => reqJournalRewind
  | .journalNote => reqJournalNote
  | .journalStatus => reqJournalStatus
  | .senseRead => reqSenseRead
  | .counterControl =>
    match (byteAt p 1).toNat with
    | 0 => counterControl Counter.start
    | 1 => counterControl Counter.startForce
    | 2 => counterControl Counter.stop
    | _ => counterControl Counter.load
  | .counterLatch => reqCounterLatch
  | .counterRead => reqCounterRead
  | .outputWrite => reqOutputWrite
  | .outputPulse => reqOutputPulse
  | .outputClaim => reqOutputClaim
  | .outputRead => reqOutputRead
  | .wdStart => reqWdStart
  | .wdFeed => reqWdFeed
  | .wdStop => reqWdStop
  | .wdStatus => reqWdStatus
  | .notifyEnable => if byteAt p 2 = 0 then notifyEnable enableSet else notifyEnable enableClear
  | .notifyAck => reqNotifyAck
  | .notifyRead => reqNotifyRead

/-- The executor performs the head request (R26). -/
def State.performHead (s : State) : State :=
  match s.link.requests with
  | [] => s
  | q :: _ => s.perform (fun _ => true) (requestBody q.kind q.payload)

/-! ## One oscillator cycle (R44, R45, R47) -/

/-- The tick divider counts one cycle of the oscillator it is counting; at 32 the boundary takes place (R47). -/
def State.countDivider (s : State) (i : Nat) : State :=
  if 32 ≤ s.time.divider + 1 then s.tickBoundary (Config.senseLevels i) (Config.vmainGood i)
  else s.setTime { s.time with divider := s.time.divider + 1 }

/-- The crystal monitor on a completed crystal cycle (R45). -/
def Timebase.crystalCycle (t : Timebase) : Timebase :=
  match t.monitor with
  | .notGood n =>
    if Config.goodCycles ≤ n + 1 then t.crystalGood else { t with monitor := .notGood (n + 1), gap := 0 }
  | .good => { t with gap := 0 }

/-- The crystal monitor on an RC cycle: the gap count, and at 33 what a gap longer than 1 ms does (R45). -/
def Timebase.gapCycle (t : Timebase) : Timebase :=
  if Config.gapCycles ≤ t.gap + 1 then
    match t.monitor with
    | .good => t.crystalFailed
    | .notGood _ => t.longGap
  else { t with gap := t.gap + 1 }

/-- A crystal cycle: the monitor, then the divider where it counts crystal cycles (R45, R47; log entry 22). -/
def State.crystalCycle (s : State) (i : Nat) : State :=
  if s.running then
    let counts := s.time.countsCrystal
    let s := s.setTime s.time.crystalCycle
    if counts then s.countDivider i else s
  else s

/-- The RC cycles since the last reading of nRST; the 16th makes the next reading (R183). -/
def State.nrstCycle (s : State) (i : Nat) : State :=
  if 16 ≤ s.control.nrst.cycles + 1 then s.nrstReading (Config.nrstHigh i)
  else s.setControl { s.control with nrst := { s.control.nrst with cycles := s.control.nrst.cycles + 1 } }

/-- One RC cycle of the power-on hold: every 32nd is an RC tick, which reads VMAIN; 66 good ones in a row end the hold
(R188; log entry 21). -/
def State.holdCycle (s : State) (i : Nat) : State :=
  if 32 ≤ s.time.divider + 1 then
    if Config.vmainGood i then
      if Config.restoreTicks ≤ s.control.restoreCount + 1 then s.powerOnReset
      else (s.setTime { s.time with divider := 0 }).setControl
        { s.control with restoreCount := s.control.restoreCount + 1 }
    else (s.setTime { s.time with divider := 0 }).setControl { s.control with restoreCount := 0 }
  else s.setTime { s.time with divider := s.time.divider + 1 }

/-- An RC cycle: the reading of nRST, the divider where it counts RC cycles, then the gap count (R45, R47, R183; log entry
22); in power-on hold the RC ticks of R188. -/
def State.rcCycle (s : State) (i : Nat) : State :=
  let s := s.nrstCycle i
  if s.running then
    let s := if s.time.countsCrystal then s else s.countDivider i
    s.setTime s.time.gapCycle
  else s.holdCycle i

/-- The next oscillator cycle, with the free inputs at the present index (R44; log entries 2 and 3). -/
def State.oscillatorCycle (s : State) : State :=
  let i := s.freeIndex
  let s := s.setFreeIndex (i + 1)
  if Config.crystalCycleNext i then s.crystalCycle i else s.rcCycle i

/-- What the part does when no command waits: the executor takes the head request if it may; otherwise one oscillator cycle
passes; without a supply nothing happens (R26, R44; log entry 2). -/
def State.ownWork (s : State) : State :=
  if s.mayPerform then s.performHead
  else if s.control.op = .unpowered then s
  else s.oscillatorCycle

end Sys2Proof.Machine
end

