-- ==== Sys2Proof/Machine/Step.lean ====
section
/-! DEFINITION. One step: the command at the front of the queue, or the part's own work when none waits. -/

namespace Sys2Proof.Machine

/-- One step of the block: the command at the front of the queue runs on the state with the queue's rest (log entry 1); on an
empty queue the part does its own work (log entry 2). -/
def step (s : State) : Host.Outcome State Fault Refusal :=
  match s.pending with
  | [] => .next s.ownWork
  | i :: rest => exec i (s.setPending rest)

/-- The state with the command that a word spells put at the front of the queue, unchanged where the word spells none (log
entry 4). -/
def State.withFetchWord (s : State) (nbits w : Nat) : State :=
  match decodeTableWord nbits w with
  | some i => s.setPending (i :: s.pending)
  | none => s

end Sys2Proof.Machine
end

