-- ==== Sys2Proof/WellFormed.lean ====
section
/-! DEFINITION. Which commands are well formed: a command names only lines, counters and entries that the part has. -/

namespace Sys2Proof

/-- A command is well formed when the unit it names exists: eight sense lines (R116), two counters (R131), six output
lines (R144), 32 schedule entries (R66). Every other operand admits every value of its type. -/
def Instr.wellFormed : Instr → Bool
  | .confirmedChange line => decide (line < 8)
  | .expiry counter => decide (counter < 2)
  | .revert line => decide (line < 6)
  | .fire entry => decide (entry < 32)
  | _ => true

end Sys2Proof
end

