-- ==== Sys2Proof/Safety.lean ====
section
/-! DEFINITION. What counts as a safe run, in the terms the claims use: the invariants of the block's state, one for each kind
of state, each what a rule of spec/ says holds at all times; and the words in which the claims speak of performed requests and
of frames. -/

namespace Sys2Proof.Machine

/-! ## The journal (R93, R95, R97, R101) -/

/-- The records are within their quotas (R93), the cursor is in the list (R95), at most one LOSS record is open, it is
undelivered (R95, R101), and OPEN stands on LOSS records only (R97). -/
structure Journal.Wf (j : Journal) : Prop where
  general : j.used .general ≤ 240
  system : j.used .system ≤ 16
  cursor : j.cursor ≤ j.records.length
  oneOpen : j.records.countP (fun r => r.opened) ≤ 1
  openUndelivered : ∀ r ∈ j.records.take j.cursor, r.opened = false
  openLoss : ∀ r ∈ j.records, r.opened = true → r.body.kindCode = 0x02

/-! ## The host link (R2, R3, R14, R16, R24) -/

/-- Both queues are within their capacity (R2); while the part is not ACTIVE the link is inert: both queues are empty and no
transaction is RECEIVING (R3, R24). -/
def State.LinkWf (s : State) : Prop :=
  s.link.requests.length ≤ 4 ∧ s.link.responses.length ≤ 4 ∧
  (s.control.op ≠ .active → s.link.requests = [] ∧ s.link.responses = [] ∧ s.link.txn ≠ .receiving)

/-! ## The output lines (R150) -/

/-- A line is forced while the supervisor is in HOLDING, while it is in RESETTING if the line's escalate flag is set, and while
the operating state is HELD (R150). -/
def State.Forces (s : State) (n : Fin 6) : Prop :=
  s.wd.state = .holding ∨ (s.wd.state = .resetting ∧ s.settings.outEscalate n = true) ∨ s.control.op = .held

/-- A line's forced flag is set exactly while a forcing condition holds for it, and a forced line shows its safe level and has
no pulse pending (R150). -/
def State.LinesWf (s : State) : Prop :=
  ∀ n : Fin 6, (s.outputs[n].forced = true ↔ s.Forces n) ∧
    (s.outputs[n].forced = true → s.outputs[n].level = s.settings.outSafe n ∧ s.outputs[n].pulse = none)

/-- The lines as the forcing conditions of a state leave them (R150): a forced line has its owner, the safe level and no pulse;
a line that is not forced is as it was, with the flag clear. -/
def State.Reforced (s : State) (lines : Vector OutLine 6) : Prop :=
  ∀ n : Fin 6,
    (s.Forces n → lines[n] = ⟨s.outputs[n].owner, s.settings.outSafe n, none, false, true⟩) ∧
    (¬s.Forces n → lines[n] = { s.outputs[n] with forced := false })

/-! ## The settings (R35, R38) -/

/-- Every stored setting is in the range and encoding of R35, and the joined timeout is 1 to 4095 (R38). -/
def Settings.Wf (cfg : Settings) : Prop :=
  (∀ i : Fin 44, settingInRange i.val cfg[i] = true) ∧ 1 ≤ cfg.wdTimeout ∧ cfg.wdTimeout ≤ 4095

/-! ## The supervisor (R156, R166, R169) -/

/-- The good-feed run is at most 16 and the host-reset count at most 8, and at most 7 outside HOLDING (R156, R166); SUSPENDED
stands only in BACKUP (R169); and outside WARNED, RESETTING and REARM the stage timer is 0 (R156). -/
def State.WdWf (s : State) : Prop :=
  s.wd.goodRun ≤ 16 ∧ s.wd.hostResets ≤ 8 ∧ (s.wd.state ≠ .holding → s.wd.hostResets ≤ 7) ∧
  (s.wd.state = .suspended → s.control.op = .backup) ∧
  (s.wd.state = .dormant ∨ s.wd.state = .watching ∨ s.wd.state = .holding ∨ s.wd.state = .suspended → s.wd.timer = 0)

/-! ## The counters (R131) -/

/-- A RUNNING counter is never empty, and no value passes 65536 (R131). -/
def Counter.Wf (x : Counter) : Prop := x.value ≤ 65536 ∧ (x.running = true → 1 ≤ x.value)

/-! ## The clock (R56) -/

/-- The epoch-end flag is 1 exactly while the clock value equals the epoch end (R56). -/
def Timebase.FlagWf (t : Timebase) : Prop := t.epochFlag = true ↔ t.clock = epochEndStamp

/-! ## Performed requests (R17, R27) -/

/-- The commands by which the executor performs a request: every row of the table that R33's catalogue lists. -/
def isRequest : Instr → Bool
  | .ncsFall | .ncsRise _ | .tickBoundary _ _ | .crystalGood | .crystalFailed | .sourceChange | .epochEnd | .rateWindowClose
  | .confirmedChange _ | .expiry _ | .revert _ | .fire _ | .timeout | .silence | .grace | .pulseEnd | .boot | .enterHeld
  | .release | .enterBackup | .returnFromBackup | .powerLoss | .powerOnHold _ | .powerOnReset | .gapLongerThan1Ms
  | .nrstReading _ => false
  | _ => true

/-- The executor may take the request `q`, behind which `rest` waits (R17). -/
def State.Ready (s : State) (q : Request) (rest : List Request) : Prop :=
  s.control.op = .active ∧ s.link.responses.length < 4 ∧ s.link.requests = q :: rest

/-- The state once the head request has left the request queue (R17). -/
def State.took (s : State) (rest : List Request) : State := { s with link := { s.link with requests := rest } }

/-- The state once the level causes have been re-evaluated and nINT recomputed: JOURNAL_LEVEL is the undelivered count at or
above JNL_THRESHOLD, CLOCK_SOURCE a source other than XTAL, and nINT is asserted in ACTIVE when a cause is pending and enabled
(R64, R112, R176, R180). -/
def State.Recomputed (s : State) : State :=
  let pending := maskWith (maskWith s.notify.pending .journalLevel
    (decide (s.settings.threshold ≤ s.journal.records.length - s.journal.cursor))) .clockSource (s.time.source != .xtal)
  { s with notify := { s.notify with
      pending := pending
      nint := s.control.op == .active && (pending &&& s.notify.enabled) != 0 } }

/-- The state once a response has joined the tail of the response queue and nINT is recomputed (R17, R27, R176). -/
def State.answered (s : State) (tag : Tag) (result : Result) (payload : List Byte) : State :=
  ({ s with link := { s.link with responses := s.link.responses ++ [⟨tag, result, payload⟩] } } : State).Recomputed

/-- The link after a flush (R22). -/
def Link.Flushed (l : Link) : Link :=
  { l with
    requests := []
    responses := []
    lastTag := none
    verdict := .none
    verdictTag := 0
    txn := match l.txn with | .receiving => .discarding | other => other
    epoch := !l.epoch }

/-! ## Frames (R7, R8) -/

/-- The down-frame of a kind code, a request tag, an acknowledgement tag and a payload, with its CRC-8 (R7, R8). -/
def downFrame (code : Byte) (tag ack : Tag) (payload : List Byte) : List Byte :=
  let body := [code, tag ++ ack, byteOf payload.length] ++ payload
  body ++ [crc8 body]

/-- The bits of a run of bytes on SDI, the most significant of each first, and the bits of a broken-off byte after them (R1). -/
def clocked (bytes : List Byte) (tail : List Bool) : List Bool :=
  bytes.flatMap (fun b => [b.getLsbD 7, b.getLsbD 6, b.getLsbD 5, b.getLsbD 4, b.getLsbD 3, b.getLsbD 2, b.getLsbD 1,
    b.getLsbD 0]) ++ tail

/-- The response queue once an acknowledgement tag has been applied (R15). -/
def ackedResponses (responses : List Response) (ack : Tag) : List Response :=
  match responses with
  | [] => []
  | r :: rest => if ack ≠ 0 ∧ r.tag = ack then rest else r :: rest

/-- The notification block after one occurrence of a cause: the count one higher, wrapping, and the pending flag set (R175). -/
def Notification.Raised (q : Notification) (k : Fin 12) : Notification :=
  { q with pending := q.pending ||| BitVec.twoPow 12 k.val, counts := q.counts.set k.val (q.counts[k] + 1) }

/-! ## Escalation of the supervisor (R163, R164, R167) -/

/-- The part of the state after an entry to WARNED with a reason, from a state that has left WATCHING (R163): the grace is set,
a run below 16 is cleared, one WATCHDOG occurrence is raised, and the record follows. -/
def State.Warned (s : State) (reason : WdReason) : State :=
  (({ s with
      wd := { s.wd with
        state := .warned
        timer := BitVec.ofNat 12 s.settings.wdGrace
        goodRun := if s.wd.goodRun < 16 then 0 else s.wd.goodRun }
      notify := s.notify.Raised 6 } : State)).append (.watchdogStage s.wd.state .warned reason s.wd.hostResets) .none

/-- `t` is `s` after an entry to RESETTING with a reason, or after the divert to HOLDING when the host-reset count then exceeds
WD_RETRY (R164, R167). -/
def State.Escalated (s : State) (reason : WdReason) (t : State) : Prop :=
  (s.settings.wdRetry < s.wd.hostResets + 1 →
    ∃ (u : State) (lines : Vector OutLine 6),
      u = { s with wd := { s.wd with state := .holding, timer := 0, hostResets := s.wd.hostResets + 1 } } ∧
      u.Reforced lines ∧
      t = ({ u with outputs := lines } : State).append
        (.watchdogStage s.wd.state .holding reason (s.wd.hostResets + 1)) .none) ∧
  (s.wd.hostResets + 1 ≤ s.settings.wdRetry →
    ∃ (u : State) (lines : Vector OutLine 6),
      u = { s with
        wd := { s.wd with
          state := .resetting
          timer := BitVec.ofNat 12 s.settings.wdPulse
          goodRun := 0
          hostResets := s.wd.hostResets + 1 }
        link := s.link.Flushed } ∧
      u.Reforced lines ∧
      t = ({ u with outputs := lines } : State).append
        (.watchdogStage s.wd.state .resetting reason (s.wd.hostResets + 1)) .none)

/-! ## The steps of a boundary (R50) -/

/-- A slew unit applies at the next clock advance (R62). -/
def Timebase.UnitApplies (t : Timebase) : Prop :=
  t.clock ≠ epochEndStamp ∧ t.slew ≠ 0 ∧ t.clock.toNat % 1024 = 511 ∧ t.slewHold = false

/-- `a` is `s` after step (a): uptime, the clock with its slew unit and the holdover count advance (R48, R52, R53, R62), the pending
declaration acts (R46), and the clock that has come to the epoch end makes its record and its occurrence (R56). The divider starts
again from 0 (R47; at a commanded boundary too, log entry 22). -/
def State.ClockStep (s a : State) : Prop :=
  ∃ (t : Timebase) (u : State),
    t.uptime = s.time.uptime + 1 ∧ t.divider = 0 ∧
    t.holdover = (if s.time.source = .holdover then satAdd s.time.holdover 1 else s.time.holdover) ∧
    (s.time.clock = epochEndStamp → t.clock = s.time.clock ∧ t.slew = s.time.slew ∧ t.slewHold = s.time.slewHold) ∧
    (s.time.UnitApplies → s.time.slew.toInt < 0 →
      t.clock = s.time.clock ∧ t.slew = s.time.slew + 1 ∧ t.slewHold = true) ∧
    (s.time.UnitApplies → 0 < s.time.slew.toInt →
      t.clock = s.time.clock + 2 ∧ t.slew = s.time.slew - 1 ∧ t.slewHold = false) ∧
    (s.time.clock ≠ epochEndStamp → ¬s.time.UnitApplies →
      t.clock = s.time.clock + 1 ∧ t.slew = s.time.slew ∧ t.slewHold = false) ∧
    t = { s.time with
      uptime := t.uptime, clock := t.clock, slew := t.slew
      slewHold := t.slewHold, holdover := t.holdover, divider := t.divider } ∧
    exec .sourceChange { s with time := t } = .next u ∧
    a = if u.time.clock = epochEndStamp ∧ u.time.epochFlag = false then
        (({ u with time := { u.time with epochFlag := true } } : State).append (.timeStep (epochEndStamp - 1))
          ⟨true, false, false, false⟩).raise .timeStep
      else u

/-- `v` is `u` after the turn of sense line `n` in step (c), its pin at a level (R117, R118, R119, R126): a frozen line takes no
more than its restart mark, which R119 sets where its mode has become EDGE (log entry 17); a marked one restarts; another
takes the sample, which ends its run, lengthens it, or confirms the change as `ConfirmedChangeJudged` says. -/
def State.SenseTurn (n : Fin 8) (pin : Bool) (u v : State) : Prop :=
  let l := u.sense[n]
  let sampled := u.settings.senseEdgeMode n = true ∧
    (u.control.op = .active ∨ ((u.control.op = .held ∨ u.control.op = .backup) ∧ u.settings.senseWatch n = true))
  let marked := l.restart = true ∨ (u.settings.senseEdgeMode n = true ∧ l.lastEdge = false)
  let run := if l.candidate = some pin then l.stable + 1 else 1
  ∃ m : SenseLine,
    (¬sampled → m = { l with restart := m.restart } ∧ (m.restart = true ↔ marked)) ∧
    (sampled → marked →
      m = { l with raw := pin, filtered := pin, candidate := none, stable := 0, restart := false }) ∧
    (sampled → ¬marked → pin = l.filtered → m = { l with raw := pin, candidate := none, stable := 0 }) ∧
    (sampled → ¬marked → pin ≠ l.filtered → run ≤ (u.settings.senseFilter n).toNat →
      m = { l with raw := pin, candidate := some pin, stable := run }) ∧
    (sampled ∧ ¬marked ∧ pin ≠ l.filtered ∧ (u.settings.senseFilter n).toNat < run →
      exec (.confirmedChange n.val) u = .next v) ∧
    (¬(sampled ∧ ¬marked ∧ pin ≠ l.filtered ∧ (u.settings.senseFilter n).toNat < run) →
      v = { u with sense := u.sense.set n.val m })

/-- `v` is `u` after the turn of counter `n` in step (d) of a boundary in ACTIVE (R132, R133): a RUNNING counter with a source event
steps by one, and the step that brings it to 0 is its expiry, as `ExpiryEffects` says. -/
def State.CounterTurn (n : Fin 2) (u v : State) : Prop :=
  let event := match u.settings.cntSource n with
    | .tick1024 => True
    | .tick32 => u.time.uptime.toNat % 32 = 0
    | .tick1 => u.time.uptime.toNat % 1024 = 0
    | .c0Expiry => u.signals.c0Expired = true
    | .sense line => u.signals.edges.getLsbD line.val = true
  (u.counters[n].running = false ∨ ¬event → v = u) ∧
  (u.counters[n].running = true → event →
    (u.counters[n].value ≤ 1 → exec (.expiry n.val) u = .next v) ∧
    (1 < u.counters[n].value →
      ∃ x : Counter, x = { u.counters[n] with value := u.counters[n].value - 1 } ∧
        v = { u with counters := u.counters.set n.val x }))

/-- `e` is `d` after step (e) (R149): a fresh mark is cleared and its pulse not counted; any other pulse is counted, and reverts at
0. -/
def State.PulseStep (d e : State) : Prop :=
  ∃ lines : Vector OutLine 6, e = { d with outputs := lines } ∧
    ∀ n : Fin 6, lines[n] =
      if d.outputs[n].fresh then { d.outputs[n] with fresh := false }
      else match d.outputs[n].pulse with
        | none => d.outputs[n]
        | some p =>
          if p.remaining = 1 then { d.outputs[n] with level := p.revert, pulse := none }
          else { d.outputs[n] with pulse := some ⟨p.remaining - 1, p.revert⟩ }

/-- `v` is `u` after one action of a fire of entry `id` that began in `s` (R69, R70, R81, R90): what becomes of it is settled by `s`,
and it acts on what the action before it left. A record carries the flags of the whole fire. -/
def State.ActionStep (s : State) (id : Fin 32) (flags : RecordFlags) (a : Action) (u v : State) : Prop :=
  match a with
  | .journal userTag => v = u.append (.scheduleFire id userTag (satAdd s.sched[id].fires 1)) flags
  | .notify => v = { u with notify := u.notify.Raised 2 }
  | .outputLevel line level =>
    if s.control.op = .active ∧ s.outputs[line].owner = .schedule ∧ s.outputs[line].forced = false then
      ∃ l : OutLine, l = { u.outputs[line] with level := level, pulse := none } ∧
        v = { u with outputs := u.outputs.set line.val l }
    else v = u
  | .outputPulse line level width =>
    if s.control.op = .active ∧ s.outputs[line].owner = .schedule ∧ s.outputs[line].forced = false then
      ∃ l : OutLine,
        l = { u.outputs[line] with
          level := level
          pulse := some ⟨width, match u.outputs[line].pulse with | some p => p.revert | none => u.outputs[line].level⟩ } ∧
        v = { u with outputs := u.outputs.set line.val l }
    else v = u
  | .counterStart n force =>
    if s.control.op = .active then
      ∃ (reload : Nat) (x : Counter),
        reload = (if u.counters[n].latch = 0 then 65536 else u.counters[n].latch.toNat) ∧
        x = (if force then { u.counters[n] with running := true, value := reload }
          else if u.counters[n].running then u.counters[n]
          else { u.counters[n] with
            running := true
            value := if u.counters[n].value = 0 then reload else u.counters[n].value }) ∧
        v = { u with counters := u.counters.set n.val x }
    else v = u
  | .counterStop n =>
    if s.control.op = .active then
      ∃ x : Counter, x = { u.counters[n] with running := false } ∧ v = { u with counters := u.counters.set n.val x }
    else v = u

/-- `f` is `e` after step (f) (R80, R89): the entries that are due at its start fire once each, in ascending due stamp and then
ascending id, each as `FireCountsAndStamps` and `FireOutputLevel` say; and every mark of an interval of 0 is then cleared
(log entry 31). -/
def State.FireStep (e f : State) : Prop :=
  ∃ (order : List (Fin 32)) (z : Nat → State) (entries : Vector Entry 32),
    (∀ id, id ∈ order ↔ e.sched[id].state = .armed ∧ e.sched[id].due.toNat ≤ e.time.clock.toNat ∧
      (e.control.op = .active ∨ ((e.control.op = .held ∨ e.control.op = .backup) ∧ e.sched[id].backupEligible = true))) ∧
    order.Pairwise (fun i j => e.sched[i].due.toNat < e.sched[j].due.toNat ∨ (e.sched[i].due = e.sched[j].due ∧ i < j)) ∧
    z 0 = e ∧ (∀ (k : Nat) (id : Fin 32), order[k]? = some id → exec (.fire id.val) (z k) = .next (z (k + 1))) ∧
    (∀ id : Fin 32, entries[id] = { (z order.length).sched[id] with atOnce := false }) ∧
    f = { z order.length with sched := entries }

/-- `g` is `f` after step (g) (R49, R157, R162): in ACTIVE, at a beat, the timers of the supervisor's state count, and at most one
timed transition follows, as `TimedTransitions` says. -/
def State.BeatStep (f g : State) : Prop :=
  (f.control.op ≠ .active ∨ f.time.uptime.toNat % 64 ≠ 0 → g = f) ∧
  (f.control.op = .active → f.time.uptime.toNat % 64 = 0 →
    match f.wd.state with
    | .dormant | .holding | .suspended => g = f
    | .watching =>
      if (f.wd.elapsed + 1).toNat = f.settings.wdTimeout then exec .timeout f = .next g
      else if f.settings.wdSilence ≠ 0 ∧ f.settings.wdSilence ≤ (satAdd f.wd.silence 1).toNat then exec .silence f = .next g
      else g = { f with wd := { f.wd with elapsed := f.wd.elapsed + 1, silence := satAdd f.wd.silence 1 } }
    | .warned =>
      if f.wd.timer = 1 then exec .grace f = .next g else g = { f with wd := { f.wd with timer := f.wd.timer - 1 } }
    | .resetting =>
      if f.wd.timer = 1 then exec .pulseEnd f = .next g else g = { f with wd := { f.wd with timer := f.wd.timer - 1 } }
    | .rearm =>
      if f.wd.timer = 1 then exec .boot f = .next g else g = { f with wd := { f.wd with timer := f.wd.timer - 1 } })

/-- `h` is `s` after steps (a) to (h) of a boundary at which the sense pins stand at given levels (R50). -/
def State.BoundarySteps (s : State) (pins : BitVec 8) (h : State) : Prop :=
  ∃ (a b c d e f g : State) (x : Nat → State) (y : Nat → State) (lines : Vector SenseLine 8),
    s.ClockStep a ∧
    (a.time.uptime.toNat % 1024 = 0 → exec .rateWindowClose a = .next b) ∧
    (a.time.uptime.toNat % 1024 ≠ 0 → b = a) ∧
    x 0 = { b with signals := ⟨0, false⟩ } ∧
    (∀ n : Fin 8, State.SenseTurn n (pins.getLsbD n.val) (x n.val) (x (n.val + 1))) ∧
    (∀ n : Fin 8, lines[n] = { (x 8).sense[n] with lastEdge := s.settings.senseEdgeMode n }) ∧
    c = { x 8 with sense := lines } ∧
    (s.control.op = .active → y 0 = c ∧ (∀ n : Fin 2, State.CounterTurn n (y n.val) (y (n.val + 1))) ∧ y 2 = d) ∧
    (s.control.op ≠ .active → d = c) ∧
    d.PulseStep e ∧ e.FireStep f ∧ f.BeatStep g ∧
    h = ({ g with signals := ⟨0, false⟩ } : State).Recomputed

/-! ## Which command performs a request (R33) -/

/-- The command that performs a request: the row of its kind and, where a kind has several operations, of its selector. A selector
that names no operation is performed, and refused, by every row of its kind (log entry 15). -/
def performs (i : Instr) (q : Request) : Prop :=
  match i with
  | .deviceInfo => q.kind = .deviceInfo
  | .deviceResetLink => q.kind = .deviceReset ∧ byteAt q.payload 0 ≠ 1
  | .deviceResetFull => q.kind = .deviceReset ∧ byteAt q.payload 0 ≠ 0
  | .settingRead => q.kind = .settingRead
  | .settingWrite => q.kind = .settingWrite
  | .lock => q.kind = .lock
  | .linkStats => q.kind = .linkStats
  | .timeRead => q.kind = .timeRead
  | .timeSet => q.kind = .timeSet
  | .timeSlew => q.kind = .timeSlew
  | .schedArm => q.kind = .schedArm
  | .schedPause => q.kind = .schedPause
  | .schedResume => q.kind = .schedResume
  | .schedCancel => q.kind = .schedCancel
  | .schedRead => q.kind = .schedRead
  | .schedSummary => q.kind = .schedSummary
  | .journalPull => q.kind = .journalPull
  | .journalAck => q.kind = .journalAck
  | .journalRewind => q.kind = .journalRewind
  | .journalNote => q.kind = .journalNote
  | .journalStatus => q.kind = .journalStatus
  | .senseRead => q.kind = .senseRead
  | .counterStart => q.kind = .counterControl ∧ (byteAt q.payload 1 = 0 ∨ 3 < (byteAt q.payload 1).toNat)
  | .counterStartForce => q.kind = .counterControl ∧ (byteAt q.payload 1 = 1 ∨ 3 < (byteAt q.payload 1).toNat)
  | .counterStop => q.kind = .counterControl ∧ (byteAt q.payload 1 = 2 ∨ 3 < (byteAt q.payload 1).toNat)
  | .counterLoad => q.kind = .counterControl ∧ (byteAt q.payload 1 = 3 ∨ 3 < (byteAt q.payload 1).toNat)
  | .counterLatch => q.kind = .counterLatch
  | .counterRead => q.kind = .counterRead
  | .outputWrite => q.kind = .outputWrite
  | .outputPulse => q.kind = .outputPulse
  | .outputClaim => q.kind = .outputClaim
  | .outputRead => q.kind = .outputRead
  | .wdStart => q.kind = .wdStart
  | .wdFeed => q.kind = .wdFeed
  | .wdStop => q.kind = .wdStop
  | .wdStatus => q.kind = .wdStatus
  | .notifyEnableSet => q.kind = .notifyEnable ∧ byteAt q.payload 2 ≠ 1
  | .notifyEnableClear => q.kind = .notifyEnable ∧ byteAt q.payload 2 ≠ 0
  | .notifyAck => q.kind = .notifyAck
  | .notifyRead => q.kind = .notifyRead
  | _ => False

/-! ## SCHED_ARM payloads (R68, R71) -/

/-- What a SCHED_ARM asks for (R71). -/
structure ArmRequest where
  id : Fin 32
  relative : Bool
  burst : Bool
  eligible : Bool
  replace : Bool
  seconds : BitVec 32
  ticks : BitVec 10
  period : Option Span
  budget : Option (BitVec 16)
  actions : List Action

/-- An action that R68 admits: a pulse has a width of at least 1. -/
def Action.Admitted : Action → Prop
  | .outputPulse _ _ width => width ≠ 0
  | _ => True

/-- The payload of a SCHED_ARM, laid out as R71 gives it. -/
def ArmRequest.payload (a : ArmRequest) : List Byte :=
  [byteOf a.id.val,
    bit a.relative ||| (bit a.burst <<< 1) ||| (bit a.eligible <<< 2) ||| (bit a.replace <<< 3) |||
      (bit a.period.isSome <<< 4) ||| (bit a.budget.isSome <<< 5)] ++
  be32 a.seconds ++ be16 (a.ticks.setWidth 16) ++
  (match a.period with
    | some p => be24 (p.extractLsb' 10 24) ++ be16 ((p.extractLsb' 0 10).setWidth 16)
    | none => []) ++
  (match a.budget with | some b => be16 b | none => []) ++
  [byteOf a.actions.length] ++ a.actions.flatMap Action.encode

/-- The due stamp a SCHED_ARM asks for, as a count of ticks (R71, R73). -/
def ArmRequest.due (a : ArmRequest) (clock : Stamp) : Nat :=
  (if a.relative then clock.toNat else 0) + (a.seconds.toNat * 1024 + a.ticks.toNat)

end Sys2Proof.Machine
end

