-- ==== Sys2Proof/Certificates/Slice0/Obligations.lean ====
section
/-! DEFINITION. The statements for the provers. Each is a Prop; none is proved here. A statement that gives a request's whole next
state by one equation says its frame with it: whatever the equation does not name is as it was. -/

open Sys2Proof Sys2Proof.Machine

/-! ## The queue of commands -/

/-- A step with a command at the front of the queue is that command's effect on the state with the queue's rest (log entry 1). A
step on an empty queue is the part's own work (log entry 2): the executor performs the head request as its command does (R26);
otherwise one oscillator cycle passes, a crystal or an RC cycle by a free input (log entry 3), without a supply none.
A crystal cycle counts for the monitor, up to the 16384th without a gap (R45), and for the divider while the source is XTAL and not
failed, whose 32nd brings the boundary (R47). An RC cycle counts for the reading of nRST, every 16th (R183), for the divider in
every other case, and for the gap, up to the 33rd (R45); in the power-on hold every 32nd reads VMAIN, and the 66th good reading in
a row ends the hold (R188; log entry 21). The order of the effects of one cycle is the model's choice (log entry 22). -/
def Obligations.StepRunsFrontCommand : Prop :=
  (∀ (i : Instr) (rest : List Instr) (s : State),
    step { s with pending := i :: rest } = exec i { s with pending := rest }) ∧
  ∀ s : State, s.pending = [] →
    (∀ (q : Request) (rest : List Request) (i : Instr), s.Ready q rest → performs i q → step s = exec i s) ∧
    ((∀ (q : Request) (rest : List Request), ¬s.Ready q rest) →
      (s.control.op = .unpowered → step s = .next s) ∧
      (s.control.op ≠ .unpowered → ∀ (k : Nat) (u : State), k = s.freeIndex → u = { s with freeIndex := k + 1 } →
        (Config.crystalCycleNext k = true →
          (s.control.op = .powerOnHold → step s = .next u) ∧
          (s.control.op ≠ .powerOnHold →
            ∃ m : Timebase,
              m = (match s.time.monitor with
                | .notGood n =>
                  if n + 1 < 16384 then { s.time with monitor := .notGood (n + 1), gap := 0 }
                  else { s.time with monitor := .good, declaration := some .good, gap := 0 }
                | .good => { s.time with gap := 0 }) ∧
              (s.time.source ≠ .xtal ∨ s.time.declaration = some .failed → step s = .next { u with time := m }) ∧
              (s.time.source = .xtal → s.time.declaration ≠ some .failed →
                (s.time.divider + 1 < 32 → step s = .next { u with time := { m with divider := s.time.divider + 1 } }) ∧
                (32 ≤ s.time.divider + 1 →
                  step s = exec (.tickBoundary (Config.senseLevels k) (Config.vmainGood k)) { u with time := m })))) ∧
        (Config.crystalCycleNext k = false →
          ∃ v : State,
            (s.control.nrst.cycles + 1 < 16 → v = { u with
              control := { s.control with nrst := { s.control.nrst with cycles := s.control.nrst.cycles + 1 } } }) ∧
            (16 ≤ s.control.nrst.cycles + 1 → exec (.nrstReading (Config.nrstHigh k)) u = .next v) ∧
            (s.control.op = .powerOnHold →
              (v.time.divider + 1 < 32 →
                step s = .next { v with time := { v.time with divider := v.time.divider + 1 } }) ∧
              (32 ≤ v.time.divider + 1 →
                (Config.vmainGood k = false → step s = .next { v with
                  time := { v.time with divider := 0 }, control := { v.control with restoreCount := 0 } }) ∧
                (Config.vmainGood k = true →
                  (v.control.restoreCount + 1 < 66 → step s = .next { v with
                    time := { v.time with divider := 0 }
                    control := { v.control with restoreCount := v.control.restoreCount + 1 } }) ∧
                  (66 ≤ v.control.restoreCount + 1 → step s = exec .powerOnReset v)))) ∧
            (s.control.op ≠ .powerOnHold →
              ∃ w : State,
                (v.time.source = .xtal → v.time.declaration ≠ some .failed → w = v) ∧
                (v.time.source ≠ .xtal ∨ v.time.declaration = some .failed →
                  (v.time.divider + 1 < 32 → w = { v with time := { v.time with divider := v.time.divider + 1 } }) ∧
                  (32 ≤ v.time.divider + 1 →
                    exec (.tickBoundary (Config.senseLevels k) (Config.vmainGood k)) v = .next w)) ∧
                (w.time.gap + 1 < 33 → step s = .next { w with time := { w.time with gap := w.time.gap + 1 } }) ∧
                (33 ≤ w.time.gap + 1 →
                  (w.time.monitor = .good → step s = exec .crystalFailed w) ∧
                  (∀ n, w.time.monitor = .notGood n → step s = exec .gapLongerThan1Ms w))))))

/-- Every well-formed command is carried out: it answers a next state in every state; and an ill-formed one, which names a line,
counter or entry the part does not have, is a fault (log entry 26). -/
def Obligations.WellFormedCommandsComplete : Prop :=
  ∀ (i : Instr) (s : State), (∃ t, exec i s = .next t) ↔ i.wellFormed = true

/-! ## The host link -/

/-- The link status byte shows eight conditions, one a bit (R6). -/
def Obligations.LinkStatusByte : Prop :=
  ∀ s : State,
    s.statusByte.getLsbD 7 = s.link.epoch ∧
    s.statusByte.getLsbD 6 = s.notify.nint ∧
    s.statusByte.getLsbD 5 = decide (2 ≤ s.link.responses.length) ∧
    s.statusByte.getLsbD 4 = decide (4 ≤ s.link.requests.length) ∧
    s.statusByte.getLsbD 3 = decide (s.wd.state = .warned ∨ s.wd.state = .rearm) ∧
    s.statusByte.getLsbD 2 = !s.time.valid ∧
    s.statusByte.getLsbD 1 = decide (s.time.source ≠ .xtal) ∧
    s.statusByte.getLsbD 0 = decide (s.journal.cursor < s.journal.records.length)

/-- The edges of nCS (R3, R4, R5, R9, R24). A fall fixes the up-frame in ACTIVE, enters DISCARDING while the link is inert, and
does nothing while nCS is low; a rise judges nothing after an abandoned transaction, or one without a whole byte, and does
nothing while nCS is high. That a fall with nCS low and a rise with nCS high, which cannot occur (R3), leave the state as it is
is the model's choice (log entry 5). SDO shows the bits of the fixed image, the most significant of each byte first and zeros
after its end, while the transaction is RECEIVING, and is high-impedance otherwise (R1, R3). -/
def Obligations.TransactionEdges : Prop :=
  ∀ (s : State) (bits : List Bool),
    (s.link.txn = .idle → s.control.op = .active →
      ∃ body : List Byte,
        body = (match s.link.responses with
          | [] => [s.statusByte, s.link.verdict.code ++ s.link.verdictTag, 0, 0]
          | r :: _ => [s.statusByte, s.link.verdict.code ++ s.link.verdictTag, r.tag ++ r.result.code,
              byteOf r.payload.length] ++ r.payload) ∧
        exec .ncsFall s = .next { s with
          link := { s.link with txn := .receiving, image := body ++ [crc8 body], rx := .clear } }) ∧
    (s.link.txn = .idle → s.control.op ≠ .active →
      exec .ncsFall s = .next { s with link := { s.link with txn := .discarding } }) ∧
    (s.link.txn ≠ .idle → exec .ncsFall s = .next s) ∧
    (s.link.txn = .idle → exec (.ncsRise bits) s = .next s) ∧
    (s.link.txn = .discarding → exec (.ncsRise bits) s = .next { s with link := { s.link with txn := .idle } }) ∧
    (s.link.txn = .receiving → s.link.rx = .clear → bits.length < 8 →
      exec (.ncsRise bits) s = .next { s with link := { s.link with txn := .idle } }) ∧
    (∀ i, s.sdoBit i = if s.link.txn = .receiving then some ((s.link.image.getD (i / 8) 0).getLsbD (7 - i % 8)) else none)

/-- The CRC-8 starts at FFH; each byte is exclusive-ORed in, and then the register is shifted left eight times, with 07H
exclusive-ORed in after each shift that moved out a 1 (R8). A receiver that computes it over a whole up-frame, its CRC byte
included, is left with 0; and the frame is 5 bytes long, plus the payload of the response it shows (R5). -/
def Obligations.UpFrameCrcChecks : Prop :=
  crc8 [] = 0xFF ∧
  (∀ (bytes : List Byte) (b : Byte), ∃ register : Nat → Byte,
    register 0 = crc8 bytes ^^^ b ∧
    (∀ i < 8, register (i + 1) = if (register i).getLsbD 7 then (register i <<< 1) ^^^ 0x07 else register i <<< 1) ∧
    crc8 (bytes ++ [b]) = register 8) ∧
  ∀ s : State,
    crc8 s.upFrame = 0 ∧
    s.upFrame.length = 5 + (match s.link.responses with | [] => 0 | r :: _ => r.payload.length)

/-- A correct frame of a known kind, a permitted length and a new tag, with room in the queue, is ACCEPTED: its request joins the
tail of the queue as sent, and its acknowledgement and its valid-frame event take effect; bytes after the CRC-8, and bits after the last
whole byte, do not matter (R1, R7, R9, R13, R14, R15, R21).
The receive record left behind is not constrained (log entry 13).
The kind codes and their permitted lengths are those of the catalogue, and no others (R33). -/
def Obligations.NcsRiseAcceptsRequest : Prop :=
  (∀ (code : Byte) (len : Nat) (k : Kind), kindOf code len = some k ↔
    match k with
    | .poll => code = 0x00 ∧ len = 0
    | .deviceInfo => code = 0x10 ∧ len = 0
    | .deviceReset => code = 0x11 ∧ len = 1
    | .settingRead => code = 0x12 ∧ len = 2
    | .settingWrite => code = 0x13 ∧ 2 ≤ len ∧ len ≤ 17
    | .lock => code = 0x14 ∧ len = 1
    | .linkStats => code = 0x15 ∧ len = 0
    | .timeRead => code = 0x20 ∧ len = 0
    | .timeSet => code = 0x21 ∧ len = 6
    | .timeSlew => code = 0x21 ∧ len = 2
    | .schedArm => code = 0x30 ∧ 13 ≤ len ∧ len ≤ 32
    | .schedPause => code = 0x31 ∧ len = 1
    | .schedResume => code = 0x32 ∧ len = 1
    | .schedCancel => code = 0x33 ∧ len = 1
    | .schedRead => code = 0x34 ∧ len = 1
    | .schedSummary => code = 0x35 ∧ len = 0
    | .journalPull => code = 0x40 ∧ len = 1
    | .journalAck => code = 0x41 ∧ len = 2
    | .journalRewind => code = 0x41 ∧ len = 0
    | .journalNote => code = 0x42 ∧ len = 6
    | .journalStatus => code = 0x43 ∧ len = 0
    | .senseRead => code = 0x50 ∧ len = 0
    | .counterControl => code = 0x60 ∧ len = 2
    | .counterLatch => code = 0x61 ∧ len = 3
    | .counterRead => code = 0x62 ∧ len = 0
    | .outputWrite => code = 0x70 ∧ len = 2
    | .outputPulse => code = 0x71 ∧ len = 4
    | .outputClaim => code = 0x72 ∧ len = 2
    | .outputRead => code = 0x73 ∧ len = 0
    | .wdStart => code = 0x80 ∧ len = 0
    | .wdFeed => code = 0x81 ∧ len = 1
    | .wdStop => code = 0x82 ∧ len = 0
    | .wdStatus => code = 0x83 ∧ len = 0
    | .notifyEnable => code = 0x90 ∧ len = 3
    | .notifyAck => code = 0x91 ∧ ∃ pairs, 1 ≤ pairs ∧ pairs ≤ 12 ∧ len = 2 * pairs
    | .notifyRead => code = 0x91 ∧ len = 0) ∧
  ∀ (s : State) (code : Byte) (k : Kind) (tag ack : Tag) (payload extra : List Byte) (tail : List Bool),
    tail.length < 8 →
    s.link.txn = .receiving → s.link.rx = .clear →
    kindOf code payload.length = some k → k ≠ .poll → tag ≠ 0 →
    s.link.lastTag ≠ some tag → s.link.requests.length < 4 →
    ∃ rx, exec (.ncsRise (clocked (downFrame code tag ack payload ++ extra) tail)) s = .next { s with
      link := { s.link with
        txn := .idle
        rx := rx
        lastTag := some tag
        verdict := .accepted
        verdictTag := tag
        requests := s.link.requests ++ [⟨k, tag, payload⟩]
        responses := ackedResponses s.link.responses ack }
      wd := { s.wd with silence := 0 } }

/-- Every other valid frame: POLL, DUPLICATE and QUEUE_FULL queue nothing and are no errors; MALFORMED is counted; each applies
its acknowledgement and its valid-frame event (R9 to R15, R20, R21). -/
def Obligations.NcsRiseOtherValidFrames : Prop :=
  ∀ (s : State) (code : Byte) (tag ack : Tag) (payload extra : List Byte) (v : Verdict) (tail : List Bool),
    tail.length < 8 →
    s.link.txn = .receiving → s.link.rx = .clear → payload.length ≤ 255 →
    ((v = .malformed ∧ (kindOf code payload.length = none ∨ (kindOf code payload.length = some .poll ∧ tag ≠ 0) ∨
        (kindOf code payload.length ≠ some .poll ∧ tag = 0))) ∨
      (v = .poll ∧ kindOf code payload.length = some .poll ∧ tag = 0) ∨
      (v = .duplicate ∧ kindOf code payload.length ≠ none ∧ kindOf code payload.length ≠ some .poll ∧ tag ≠ 0 ∧
        s.link.lastTag = some tag) ∨
      (v = .queueFull ∧ kindOf code payload.length ≠ none ∧ kindOf code payload.length ≠ some .poll ∧ tag ≠ 0 ∧
        s.link.lastTag ≠ some tag ∧ 4 ≤ s.link.requests.length)) →
    ∃ rx, exec (.ncsRise (clocked (downFrame code tag ack payload ++ extra) tail)) s = .next { s with
      link := { s.link with
        txn := .idle
        rx := rx
        verdict := v
        verdictTag := if v = .poll then 0 else tag
        errors := if v = .malformed then satAdd s.link.errors 1 else s.link.errors
        responses := ackedResponses s.link.responses ack }
      wd := { s.wd with silence := 0 }
      notify := if v = .malformed then s.notify.Raised 10 else s.notify }

/-- A frame with fewer than 3 or fewer than 4 + L whole bytes is SHORT, and one whose CRC-8 byte does not match is CRC_FAIL:
each is counted, saturating, and raises one LINK_ERROR occurrence, and it touches no queue and no supervisor (R8, R9, R19 to
R21). -/
def Obligations.NcsRiseBadFrames : Prop :=
  ∀ (s : State) (bytes : List Byte) (tail : List Bool),
    tail.length < 8 →
    s.link.txn = .receiving → s.link.rx = .clear → bytes ≠ [] →
    ∀ v : Verdict,
      (v = .short ∧ (bytes.length < 3 ∨ bytes.length < 4 + (byteAt bytes 2).toNat)) ∨
      (v = .crcFail ∧ 4 + (byteAt bytes 2).toNat ≤ bytes.length ∧
        byteAt bytes (3 + (byteAt bytes 2).toNat) ≠ crc8 (bytes.take (3 + (byteAt bytes 2).toNat))) →
      ∃ rx, exec (.ncsRise (clocked bytes tail)) s = .next { s with
        link := { s.link with txn := .idle, rx := rx, verdict := v, verdictTag := 0, errors := satAdd s.link.errors 1 }
        notify := s.notify.Raised 10 }

/-- Every step keeps the queues within their capacity and the inert link empty (R2, R14, R16, R24). -/
def Obligations.LinkInvariantKept : Prop := ∀ s t : State, s.LinkWf → step s = .next t → t.LinkWf

/-! ## The executor and the requests of the link and device group -/

/-- While the operating state is not ACTIVE, while the response queue holds 4, or while no request waits, no request is performed
(R17, R18). -/
def Obligations.RequestsWait : Prop :=
  ∀ (i : Instr) (s : State), isRequest i = true →
    (s.control.op ≠ .active ∨ 4 ≤ s.link.responses.length ∨ s.link.requests = []) → exec i s = .next s

/-- A refused request changes no state but that it leaves the request queue and its response, without payload, joins the response
queue; nINT is recomputed at its end (R28, R31, R176). -/
def Obligations.RefusalChangesNothing : Prop :=
  ∀ (i : Instr) (s t : State) (q : Request) (rest : List Request) (r : Result) (p : List Byte),
    isRequest i = true → s.Ready q rest → exec i s = .next t →
    t.link.responses = s.link.responses ++ [⟨q.tag, r, p⟩] → r ≠ .ok → r ≠ .feedFault →
    t = (s.took rest).answered q.tag r []

/-- DEVICE_INFO returns the fixed description of the part and changes no state (R34). -/
def Obligations.DeviceInfoAnswers : Prop :=
  ∀ (s : State) (tag : Tag) (p : List Byte) (rest : List Request), s.Ready ⟨.deviceInfo, tag, p⟩ rest →
    exec .deviceInfo s =
      .next ((s.took rest).answered tag .ok [0x03, 0x40, 1, 32, 0x01, 0x00, 240, 16, 8, 6, 2, 4, 4])

/-- SETTING_READ returns the stored values of a run of 1 to 16 settings, or is refused with RANGE (R36). -/
def Obligations.SettingReadAnswers : Prop :=
  ∀ (s : State) (tag : Tag) (index count : Byte) (rest : List Request),
    s.Ready ⟨.settingRead, tag, [index, count]⟩ rest →
    (1 ≤ count.toNat ∧ count.toNat ≤ 16 ∧ index.toNat + count.toNat - 1 ≤ 0x2B →
      exec .settingRead s = .next ((s.took rest).answered tag .ok
        ((List.range count.toNat).map fun i => s.settings.toArray.getD (index.toNat + i) 0))) ∧
    (¬(1 ≤ count.toNat ∧ count.toNat ≤ 16 ∧ index.toNat + count.toNat - 1 ≤ 0x2B) →
      exec .settingRead s = .next ((s.took rest).answered tag .range []))

/-- SETTING_WRITE, by its checks in the order of R30: an engaged lock of a touched setting's class gives LOCKED; a touched
supervisor setting outside DORMANT gives STATE; an index above 2BH, a value out of range or a joined timeout of 0 or above 4095
gives RANGE; otherwise every touched setting takes its value and no other changes, and the lines follow (R37, R38, R145). -/
def Obligations.SettingWriteAllOrNothing : Prop :=
  ∀ (s : State) (tag : Tag) (index : Byte) (values : List Byte) (rest : List Request),
    s.Ready ⟨.settingWrite, tag, index :: values⟩ rest →
    ∀ (touches : LockClass → Prop) (cfg : Settings),
      (∀ k, touches k ↔ ∃ i, i < values.length ∧ lockClass (index.toNat + i) = k) →
      (∀ i : Fin 44, cfg[i] =
        if index.toNat ≤ i.val ∧ i.val < index.toNat + values.length then values.getD (i.val - index.toNat) 0
        else s.settings[i]) →
      ((touches .outputs ∧ s.control.locks.outputs = true) ∨ (touches .supervisor ∧ s.control.locks.supervisor = true) →
        exec .settingWrite s = .next ((s.took rest).answered tag .locked [])) ∧
      (¬((touches .outputs ∧ s.control.locks.outputs = true) ∨ (touches .supervisor ∧ s.control.locks.supervisor = true)) →
        (touches .supervisor ∧ s.wd.state ≠ .dormant →
          exec .settingWrite s = .next ((s.took rest).answered tag .state [])) ∧
        (¬(touches .supervisor ∧ s.wd.state ≠ .dormant) →
          let good := index.toNat + values.length ≤ 44 ∧
            (∀ i : Fin 44, index.toNat ≤ i.val → i.val < index.toNat + values.length →
              settingInRange i.val cfg[i] = true) ∧ 1 ≤ cfg.wdTimeout ∧ cfg.wdTimeout ≤ 4095
          (¬good → exec .settingWrite s = .next ((s.took rest).answered tag .range [])) ∧
          (good → ∃ lines : Vector OutLine 6, ({ s with settings := cfg } : State).Reforced lines ∧
            exec .settingWrite s =
              .next (({ s.took rest with settings := cfg, outputs := lines } : State).answered tag .ok []))))

/-- LOCK engages every lock of the set it names and answers the engaged set; bits 7 to 3 give RANGE, and SUPERVISOR, not yet
engaged, outside WATCHING gives STATE (R39).
That the STATE check looks at bit 1 of a set with undefined bits too is DEDUCED (log entry 18). -/
def Obligations.LockEngages : Prop :=
  ∀ (s : State) (tag : Tag) (set : Byte) (rest : List Request), s.Ready ⟨.lock, tag, [set]⟩ rest →
    (set.toNat ≤ 7 → (set.getLsbD 1 = true → s.control.locks.supervisor = true ∨ s.wd.state = .watching) →
      ∃ l : Locks,
        l.clock = (s.control.locks.clock || set.getLsbD 0) ∧
        l.supervisor = (s.control.locks.supervisor || set.getLsbD 1) ∧
        l.outputs = (s.control.locks.outputs || set.getLsbD 2) ∧
        exec .lock s = .next (({ s.took rest with control := { s.control with locks := l } } : State).answered tag .ok
          [bit l.clock ||| (bit l.supervisor <<< 1) ||| (bit l.outputs <<< 2)])) ∧
    (set.getLsbD 1 = true → s.control.locks.supervisor = false → s.wd.state ≠ .watching →
      exec .lock s = .next ((s.took rest).answered tag .state [])) ∧
    (7 < set.toNat → (set.getLsbD 1 = true → s.control.locks.supervisor = true ∨ s.wd.state = .watching) →
      exec .lock s = .next ((s.took rest).answered tag .range []))

/-- LINK_STATS answers the link error counter and sets it to 0 in the same event (R42). -/
def Obligations.LinkStatsReadsAndClears : Prop :=
  ∀ (s : State) (tag : Tag) (p : List Byte) (rest : List Request), s.Ready ⟨.linkStats, tag, p⟩ rest →
    exec .linkStats s = .next
      (({ s with link := { s.link with requests := rest, errors := 0 } } : State).answered tag .ok [s.link.errors])

/-- Every step keeps every setting in its range and the joined timeout between 1 and 4095 (R35, R37, R38, R41). -/
def Obligations.SettingsStayInRange : Prop := ∀ s t : State, s.settings.Wf → step s = .next t → t.settings.Wf

/-! ## The timebase -/

/-- TIME_READ answers the clock value, uptime, validity, source, epoch-end flag and slew remaining, and changes no state (R57). -/
def Obligations.TimeReadAnswers : Prop :=
  ∀ (s : State) (tag : Tag) (p : List Byte) (rest : List Request), s.Ready ⟨.timeRead, tag, p⟩ rest →
    exec .timeRead s = .next ((s.took rest).answered tag .ok
      (be32 (Stamp.seconds s.time.clock) ++ be16 ((Stamp.ticks s.time.clock).setWidth 16) ++ be32 s.time.uptime ++
        ([if s.time.valid then 1 else 0,
          (match s.time.source with | .rcStartup => 0 | .xtal => 1 | .holdover => 2),
          if s.time.epochFlag then 1 else 0] : List Byte) ++ be16 s.time.slew))

/-- TIME_SET: LOCKED under the CLOCK lock, RANGE for ticks above 1023; otherwise the clock takes the value named, slew is cleared,
the RELATIVE entries shift, a TIME_STEP record with the old value is made (with EPOCH only at the epoch end) and one TIME_STEP
occurrence is raised, and the clock is VALID (R58, R59). -/
def Obligations.TimeSetStepsClock : Prop :=
  ∀ (s : State) (tag : Tag) (seconds : BitVec 32) (ticks : BitVec 16) (rest : List Request),
    s.Ready ⟨.timeSet, tag, be32 seconds ++ be16 ticks⟩ rest →
    (s.control.locks.clock = true → exec .timeSet s = .next ((s.took rest).answered tag .locked [])) ∧
    (s.control.locks.clock = false → 1023 < ticks.toNat →
      exec .timeSet s = .next ((s.took rest).answered tag .range [])) ∧
    (s.control.locks.clock = false → ticks.toNat ≤ 1023 →
      ∃ (new : Stamp) (shifted clamped : Nat),
        new.toNat = seconds.toNat * 1024 + ticks.toNat ∧
        shifted = s.sched.toList.countP (fun e => e.state == .armed && e.relative) ∧
        clamped = s.sched.toList.countP (fun e => e.state == .armed && e.relative &&
          (decide ((e.due.toNat : Int) + (new.toNat - s.time.clock.toNat) < 0) ||
            decide ((2 : Int) ^ 42 - 1 < (e.due.toNat : Int) + (new.toNat - s.time.clock.toNat)))) ∧
        exec .timeSet s = .next
          ((let s1 : State := { s.took rest with
              time := { s.time with clock := new, epochFlag := decide (new = epochEndStamp), slew := 0, slewHold := false }
              sched := s.sched.map fun e => e.shift ((new.toNat : Int) - s.time.clock.toNat) }
            let s2 := (s1.append (.timeStep s.time.clock) ⟨decide (new = epochEndStamp), false, false, false⟩).raise .timeStep
            ({ s2 with time := { s2.time with valid := true } } : State)).answered tag .ok
            (Stamp.bytes s.time.clock ++ [byteOf shifted, byteOf clamped])))

/-- The shift of a TIME_SET: an ARMED RELATIVE entry's due stamp moves by the step, held at 0.0 and at the epoch end with the
clamped note; every other entry, and every other field, is unchanged (R60). -/
def Obligations.TimeSetShift : Prop :=
  ∀ (e : Entry) (delta : Int),
    (¬(e.state = .armed ∧ e.relative = true) → e.shift delta = e) ∧
    (e.state = .armed ∧ e.relative = true →
      ((e.due.toNat : Int) + delta < 0 → e.shift delta = { e with due := 0, clamped := true }) ∧
      ((2 : Int) ^ 42 - 1 < (e.due.toNat : Int) + delta →
        e.shift delta = { e with due := epochEndStamp, clamped := true }) ∧
      (0 ≤ (e.due.toNat : Int) + delta → (e.due.toNat : Int) + delta ≤ 2 ^ 42 - 1 →
        ∃ due : Stamp, (due.toNat : Int) = (e.due.toNat : Int) + delta ∧ e.shift delta = { e with due := due }))

/-- TIME_SLEW replaces the slew remaining and answers the one replaced; nothing else changes (R61). -/
def Obligations.TimeSlewReplaces : Prop :=
  ∀ (s : State) (tag : Tag) (v : BitVec 16) (rest : List Request), s.Ready ⟨.timeSlew, tag, be16 v⟩ rest →
    exec .timeSlew s =
      .next (({ s.took rest with time := { s.time with slew := v } } : State).answered tag .ok (be16 s.time.slew))

/-- TICK_BOUNDARY in an operating state: uptime advances by one, wrapping; the clock stands at the epoch end, stands for one
boundary under a negative slew unit, advances by 2 under a positive one and by 1 otherwise; and it never goes back (R52, R53,
R62). It performs steps (a) to (h), each on what the one before it left (R50); in BACKUP the reading of VMAIN follows, which
returns the restore count to 0, advances it, or, at 66, brings the return (R184). `State.BoundarySteps` says each step by its rules,
and by the statements of the commands that are pieces of it.
These are the model's: the reading of VMAIN is part of the command (log entry 11); a frozen line whose mode becomes EDGE takes its
restart mark at that boundary, by R119 and R126, where R117 lets a frozen line's mark keep its value (log entry 17, DEDUCED); a
commanded boundary too restarts the divider at 0 (log entry 22); the source events and C0's expiry are handed on in `signals`,
clear before step (c) and after step (h) (log entry 27); and the marks of an interval of 0 are cleared after step (f) (log entry
31). -/
def Obligations.BoundaryAdvancesClock : Prop :=
  ∀ (s : State) (pins : BitVec 8) (vmain : Bool),
    (s.control.op = .active ∨ s.control.op = .held ∨ s.control.op = .backup) →
    ∃ t, exec (.tickBoundary pins vmain) s = .next t ∧
      t.time.uptime = s.time.uptime + 1 ∧
      s.time.clock.toNat ≤ t.time.clock.toNat ∧
      t.time.clock.toNat =
        (if s.time.clock = epochEndStamp then s.time.clock.toNat
        else if s.time.slew ≠ 0 ∧ s.time.clock.toNat % 1024 = 511 ∧ s.time.slewHold = false then
          if s.time.slew.toInt < 0 then s.time.clock.toNat else s.time.clock.toNat + 2
        else s.time.clock.toNat + 1) ∧
      ∃ h : State, s.BoundarySteps pins h ∧
        (s.control.op ≠ .backup → t = h) ∧
        (s.control.op = .backup →
          (vmain = false → t = { h with control := { h.control with restoreCount := 0 } }) ∧
          (vmain = true → h.control.restoreCount + 1 < 66 →
            t = { h with control := { h.control with restoreCount := h.control.restoreCount + 1 } }) ∧
          (vmain = true → 66 ≤ h.control.restoreCount + 1 → exec .returnFromBackup h = .next t))

/-- The crystal monitor's three events (R45): CRYSTAL_GOOD and CRYSTAL_FAILED make their declaration in place of any other, a gap
in NOT_GOOD only clears the count; each does nothing in the other condition of the monitor.
That an event does nothing in the other condition, and that each stands for its whole qualification, is the model's choice (log entries
5 and 7). -/
def Obligations.CrystalEvents : Prop :=
  ∀ s : State, (s.control.op = .active ∨ s.control.op = .held ∨ s.control.op = .backup) →
    (∀ n, s.time.monitor = .notGood n →
      exec .crystalGood s =
        .next { s with time := { s.time with monitor := .good, declaration := some .good, gap := 0 } } ∧
      exec .gapLongerThan1Ms s = .next { s with time := { s.time with monitor := .notGood 0, gap := 33 } } ∧
      exec .crystalFailed s = .next s) ∧
    (s.time.monitor = .good →
      exec .crystalFailed s =
        .next { s with time := { s.time with monitor := .notGood 0, declaration := some .failed, gap := 33 } } ∧
      exec .crystalGood s = .next s ∧ exec .gapLongerThan1Ms s = .next s)

/-- SOURCE_CHANGE: the pending declaration acts and is cleared; XTAL to HOLDOVER records CLOCK_FAULT and clears the holdover count,
HOLDOVER to XTAL records CLOCK_RESTORED with it, RC_STARTUP to XTAL records nothing (R46, R48). EPOCH_END: the advance from
4 294 967 295.1022 stops the clock at the epoch end, sets the flag, and makes a TIME_STEP record with EPOCH and one TIME_STEP
occurrence (R56).
That each command alone makes its piece of step (a), and EPOCH_END the advance with it, is the model's choice (log entry 6). -/
def Obligations.SourceChangeAndEpochEnd : Prop :=
  ∀ s : State, (s.control.op = .active ∨ s.control.op = .held ∨ s.control.op = .backup) →
    (s.time.declaration = none → exec .sourceChange s = .next s) ∧
    (s.time.declaration = some .good → s.time.source = .rcStartup →
      exec .sourceChange s = .next { s with time := { s.time with source := .xtal, declaration := none } }) ∧
    (s.time.declaration = some .good → s.time.source = .holdover →
      exec .sourceChange s =
        .next (({ s with time := { s.time with source := .xtal, declaration := none } } : State).append
          (.clockRestored s.time.holdover) ⟨false, false, false, false⟩)) ∧
    (s.time.declaration = some .failed → s.time.source = .xtal →
      exec .sourceChange s =
        .next (({ s with time := { s.time with source := .holdover, declaration := none, holdover := 0 } } : State).append
          .clockFault ⟨false, false, false, false⟩)) ∧
    (s.time.clock.toNat = 2 ^ 42 - 2 → s.time.epochFlag = false →
      exec .epochEnd s =
        .next ((({ s with time := { s.time with clock := epochEndStamp, slewHold := false, epochFlag := true } } : State).append
          (.timeStep s.time.clock) ⟨true, false, false, false⟩).raise .timeStep))

/-- Every step keeps the epoch-end flag 1 exactly while the clock value equals the epoch end (R56). -/
def Obligations.EpochFlagInvariantKept : Prop := ∀ s t : State, s.time.FlagWf → step s = .next t → t.time.FlagWf

/-! ## The schedule engine -/

/-- SCHED_ARM of an admitted request reads every field of the payload, sets the entry from nothing of its earlier contents, and
answers its due stamp; STATE for an ARMED or PAUSED entry without the replace flag, and then TIME_INVALID for an ABSOLUTE entry
while the clock is INVALID, come first (R68, R71, R72, R73).
Of any payload: the STATE check by the entry named, then the TIME_INVALID check, then RANGE for each row of R72's table, whose
later fields stand where the flags place them; an undefined id or flag bit gives RANGE alone, the rest of the payload being
checked all the same (log entry 18).
The entry's last field, the mark of a RELATIVE offset of 0, is the model's (log entry 31). -/
def Obligations.SchedArmSetsEntry : Prop :=
  (∀ (s : State) (tag : Tag) (a : ArmRequest) (rest : List Request), s.Ready ⟨.schedArm, tag, a.payload⟩ rest →
    1 ≤ a.actions.length → a.actions.length ≤ 4 → (∀ x ∈ a.actions, x.Admitted) →
    (∀ p, a.period = some p → 16 ≤ p.toNat) → (∀ b, a.budget = some b → b ≠ 0 ∧ a.period ≠ none) →
    a.due s.time.clock ≤ 2 ^ 42 - 1 →
    (a.replace = false → s.sched[a.id].state = .armed ∨ s.sched[a.id].state = .paused →
      exec .schedArm s = .next ((s.took rest).answered tag .state [])) ∧
    (a.replace = true ∨ s.sched[a.id].state = .free ∨ s.sched[a.id].state = .spent →
      (a.relative = false → s.time.valid = false →
        exec .schedArm s = .next ((s.took rest).answered tag .timeInvalid [])) ∧
      (a.relative = true ∨ s.time.valid = true →
        ∃ (due : Stamp) (e : Entry), due.toNat = a.due s.time.clock ∧
          e = ⟨.armed, a.relative, due, a.period, a.budget, a.burst, a.eligible, a.actions, 0, 0, 0, none, none, false,
            false, decide (a.relative = true ∧ a.seconds = 0 ∧ a.ticks = 0)⟩ ∧
          exec .schedArm s = .next
            (({ s.took rest with sched := s.sched.set a.id.val e } : State).answered tag .ok (Stamp.bytes due))))) ∧
  ∀ (s : State) (tag : Tag) (p : List Byte) (rest : List Request), s.Ready ⟨.schedArm, tag, p⟩ rest →
    ∀ (flags : Byte) (budgetAt countAt count given : Nat),
      flags = byteAt p 1 →
      budgetAt = (if flags.getLsbD 4 then 13 else 8) →
      countAt = (if flags.getLsbD 5 then budgetAt + 2 else budgetAt) →
      count = (byteAt p countAt).toNat →
      given = (u32At p 2).toNat * 1024 + (u16At p 6).toNat →
      let busy := ∃ id : Fin 32, id.val = (byteAt p 0).toNat ∧ flags.getLsbD 3 = false ∧
        (s.sched[id].state = .armed ∨ s.sched[id].state = .paused)
      let untimed := flags.getLsbD 0 = false ∧ s.time.valid = false
      let outOfRange := 31 < (byteAt p 0).toNat ∨
        p.length ≠ 9 + (if flags.getLsbD 4 then 5 else 0) + (if flags.getLsbD 5 then 2 else 0) + 4 * count ∨
        count = 0 ∨ 4 < count ∨ flags.getLsbD 6 = true ∨ flags.getLsbD 7 = true ∨ 1023 < (u16At p 6).toNat ∨
        (flags.getLsbD 0 = true ∧ 2 ^ 42 - 1 < s.time.clock.toNat + given) ∨
        (flags.getLsbD 4 = true ∧ (1023 < (u16At p 11).toNat ∨ (u24At p 8).toNat * 1024 + (u16At p 11).toNat < 16)) ∨
        (flags.getLsbD 5 = true ∧ (flags.getLsbD 4 = false ∨ u16At p budgetAt = 0)) ∨
        (∃ i, i < count ∧ ∀ x : Action, x.Admitted → x.encode ≠ [byteAt p (countAt + 1 + 4 * i),
          byteAt p (countAt + 2 + 4 * i), byteAt p (countAt + 3 + 4 * i), byteAt p (countAt + 4 + 4 * i)])
      (busy → exec .schedArm s = .next ((s.took rest).answered tag .state [])) ∧
      (¬busy → untimed → exec .schedArm s = .next ((s.took rest).answered tag .timeInvalid [])) ∧
      (¬busy → ¬untimed → outOfRange → exec .schedArm s = .next ((s.took rest).answered tag .range []))

/-- SCHED_PAUSE, SCHED_RESUME and SCHED_CANCEL of an entry in the state they ask for, STATE for the first two otherwise,
and RANGE for an id above 31 (R75, R76, R77). The mark that a resume sets for a RELATIVE remaining interval of 0 is the model's (log
entry 31). -/
def Obligations.SchedPauseResumeCancel : Prop :=
  (∀ (s : State) (tag : Tag) (id : Fin 32) (rest : List Request),
    (s.Ready ⟨.schedPause, tag, [byteOf id.val]⟩ rest →
      (s.sched[id].state = .armed →
        ∃ e : Entry,
          e = { s.sched[id] with
            state := .paused
            remaining := if s.sched[id].relative then
              some (if s.time.clock.toNat ≤ s.sched[id].due.toNat then s.sched[id].due - s.time.clock else 0) else none } ∧
          exec .schedPause s = .next (({ s.took rest with sched := s.sched.set id.val e } : State).answered tag .ok [])) ∧
      (s.sched[id].state ≠ .armed → exec .schedPause s = .next ((s.took rest).answered tag .state []))) ∧
    (s.Ready ⟨.schedResume, tag, [byteOf id.val]⟩ rest →
      (s.sched[id].state = .paused →
        let sum := s.time.clock.toNat + (s.sched[id].remaining.getD 0).toNat
        let atOnce := decide (s.sched[id].remaining.getD 0 = 0)
        ∃ e : Entry,
          e = (if s.sched[id].relative then
            if 2 ^ 42 - 1 < sum then
              { s.sched[id] with state := .armed, remaining := none, due := epochEndStamp, clamped := true, atOnce := atOnce }
            else
              { s.sched[id] with
                state := .armed
                remaining := none
                due := s.time.clock + s.sched[id].remaining.getD 0
                atOnce := atOnce }
          else { s.sched[id] with state := .armed, atOnce := false }) ∧
          exec .schedResume s = .next
            (({ s.took rest with sched := s.sched.set id.val e } : State).answered tag .ok (Stamp.bytes e.due))) ∧
      (s.sched[id].state ≠ .paused → exec .schedResume s = .next ((s.took rest).answered tag .state []))) ∧
    (s.Ready ⟨.schedCancel, tag, [byteOf id.val]⟩ rest →
      exec .schedCancel s = .next
        (({ s.took rest with sched := s.sched.set id.val .free } : State).answered tag .ok
          [match s.sched[id].state with | .free => 0 | .armed => 1 | .paused => 2 | .spent => 3]))) ∧
  ∀ (s : State) (tag : Tag) (b : Byte) (rest : List Request) (i : Instr), 31 < b.toNat →
    (s.Ready ⟨.schedPause, tag, [b]⟩ rest ∧ i = .schedPause ∨ s.Ready ⟨.schedResume, tag, [b]⟩ rest ∧ i = .schedResume ∨
      s.Ready ⟨.schedCancel, tag, [b]⟩ rest ∧ i = .schedCancel) →
    exec i s = .next ((s.took rest).answered tag .range [])

/-- SCHED_READ answers the 51 bytes of an entry of at most 4 actions, as the table of R78 lays them out, a FREE entry reading as
its id and 50 zero bytes; an id above 31 gives RANGE (R68, R78). -/
def Obligations.SchedReadAnswers : Prop :=
  ∀ (s : State) (tag : Tag) (b : Byte) (rest : List Request), s.Ready ⟨.schedRead, tag, [b]⟩ rest →
    (31 < b.toNat → exec .schedRead s = .next ((s.took rest).answered tag .range [])) ∧
    (∀ id : Fin 32, id.val = b.toNat → ∀ e : Entry, e = s.sched[id] → e.actions.length ≤ 4 →
      ∃ (config notes : Byte) (payload : List Byte),
        (config.getLsbD 0 = e.relative ∧ config.getLsbD 1 = e.burst ∧ config.getLsbD 2 = e.backupEligible ∧
          config.getLsbD 3 = false ∧ config.getLsbD 4 = e.period.isSome ∧ config.getLsbD 5 = e.budget.isSome ∧
          config.getLsbD 6 = false ∧ config.getLsbD 7 = false) ∧
        (notes.getLsbD 0 = e.lastFired.isSome ∧ notes.getLsbD 1 = e.remaining.isSome ∧ notes.getLsbD 2 = e.epochEnded ∧
          notes.getLsbD 3 = e.clamped ∧ notes.getLsbD 4 = false ∧ notes.getLsbD 5 = false ∧ notes.getLsbD 6 = false ∧
          notes.getLsbD 7 = false) ∧
        payload =
          [b, (match e.state with | .free => 0 | .armed => 1 | .paused => 2 | .spent => 3), config, notes] ++
          be32 (BitVec.ofNat 32 (e.due.toNat / 1024)) ++ be16n (e.due.toNat % 1024) ++
          (match e.period with
            | some p => be24 (BitVec.ofNat 24 (p.toNat / 1024)) ++ be16n (p.toNat % 1024)
            | none => [0, 0, 0, 0, 0]) ++
          (match e.budget with | some n => be16 n | none => [0, 0]) ++
          be16 e.fires ++ be16 e.missed ++ [e.refused] ++
          (match e.lastFired with
            | some t => be32 (BitVec.ofNat 32 (t.toNat / 1024)) ++ be16n (t.toNat % 1024)
            | none => [0, 0, 0, 0, 0, 0]) ++
          (match e.remaining with
            | some t => be32 (BitVec.ofNat 32 (t.toNat / 1024)) ++ be16n (t.toNat % 1024)
            | none => [0, 0, 0, 0, 0, 0]) ++
          [byteOf e.actions.length] ++
          (e.actions.flatMap fun a =>
            match a with
            | .journal t => [0x01, t.extractLsb' 8 8, t.extractLsb' 0 8, 0]
            | .notify => [0x02, 0, 0, 0]
            | .outputLevel line level => [0x03, byteOf line.val, (if level then 1 else 0), 0]
            | .outputPulse line level width =>
              [0x04, byteOf (line.val + if level then 16 else 0), width.extractLsb' 8 8, width.extractLsb' 0 8]
            | .counterStart counter force => [0x05, byteOf counter.val, (if force then 1 else 0), 0]
            | .counterStop counter => [0x06, byteOf counter.val, 0, 0]) ++
          List.replicate (4 * (4 - e.actions.length)) 0 ∧
        payload.length = 51 ∧ (e = .free → payload = b :: List.replicate 50 0) ∧
        exec .schedRead s = .next ((s.took rest).answered tag .ok payload))

/-- SCHED_SUMMARY answers the maps of the ARMED, PAUSED and SPENT entries, and names the ARMED entry of the lowest due stamp, among
equals of the lowest id (R79, R80). -/
def Obligations.SchedSummaryAnswers : Prop :=
  ∀ (s : State) (tag : Tag) (p : List Byte) (rest : List Request), s.Ready ⟨.schedSummary, tag, p⟩ rest →
    ∃ (armed paused spent : BitVec 32) (next : List Byte),
      (∀ id : Fin 32, armed.getLsbD id.val = decide (s.sched[id].state = .armed) ∧
        paused.getLsbD id.val = decide (s.sched[id].state = .paused) ∧
        spent.getLsbD id.val = decide (s.sched[id].state = .spent)) ∧
      ((∀ id : Fin 32, s.sched[id].state ≠ .armed) → next = List.replicate 8 0) ∧
      (∀ id : Fin 32, s.sched[id].state = .armed →
        (∀ j : Fin 32, s.sched[j].state = .armed →
          s.sched[id].due.toNat < s.sched[j].due.toNat ∨ (s.sched[id].due = s.sched[j].due ∧ id.val ≤ j.val)) →
        next = [1, byteOf id.val] ++ Stamp.bytes s.sched[id].due) ∧
      exec .schedSummary s =
        .next ((s.took rest).answered tag .ok (be32 armed ++ be32 paused ++ be32 spent ++ next))

/-- FIRE of a due entry counts the fire, stamps it, counts its refused actions, takes one from its budget and then advances it,
which `CatchUp` describes; it leaves every other entry, the clock, the link, the supervisor and the settings alone. An entry
with no period is then SPENT with its due stamp kept. An entry that is not due does not fire (R70, R80, R81, R84, R89).
That FIRE of an entry that is not due does nothing is the model's choice (log entry 6), and the mark of an interval of 0 that the fire
clears is the model's (log entry 31). -/
def Obligations.FireCountsAndStamps : Prop :=
  ∀ (s : State) (id : Fin 32),
    let due := s.sched[id].state = .armed ∧ s.sched[id].due.toNat ≤ s.time.clock.toNat ∧
      (s.control.op = .active ∨ ((s.control.op = .held ∨ s.control.op = .backup) ∧ s.sched[id].backupEligible = true))
    (due → ∃ (t : State) (e : Entry), exec (.fire id.val) s = .next t ∧
      t.sched[id].fires = satAdd s.sched[id].fires 1 ∧ t.sched[id].lastFired = some s.time.clock ∧
      (s.sched[id].period = none → t.sched[id].state = .spent ∧ t.sched[id].due = s.sched[id].due) ∧
      e = { s.sched[id] with
        fires := satAdd s.sched[id].fires 1
        lastFired := some s.time.clock
        refused := satAdd s.sched[id].refused (s.sched[id].actions.countP fun a =>
          match a with
          | .outputLevel line _ | .outputPulse line _ _ =>
            decide (s.control.op = .active ∧ (s.outputs[line].owner ≠ .schedule ∨ s.outputs[line].forced = true))
          | _ => false)
        budget := s.sched[id].budget.map fun b => b - 1
        atOnce := false } ∧
      t.sched[id] = e.advance s.time.clock ∧
      (∀ j : Fin 32, j ≠ id → t.sched[j] = s.sched[j]) ∧
      t.time = s.time ∧ t.link = s.link ∧ t.wd = s.wd ∧ t.settings = s.settings ∧ t.sense = s.sense ∧
      t.control = s.control) ∧
    (¬due → exec (.fire id.val) s = .next s)

/-- The actions of a fire (R69, R70, R81, R82, R90), first each on its own entry and then in lists. An output level and an
output pulse are performed on an unforced line of the schedule in ACTIVE, refused on a line that is forced or that another owns, and suppressed in HELD and BACKUP;
so are the counter actions, which are never refused. NOTIFY raises one SCHEDULE occurrence and JOURNAL appends one SCHEDULE_FIRE
record in every operating state in which the entry fires: with the fire count, with LATE when the clock is more than 1 tick past
the due stamp, unless the entry was armed or resumed with a RELATIVE interval of 0 since the last boundary (R82), and with REFUSED
or SUPPRESSED when another action of the fire was. That such an entry is not LATE under a positive slew unit either, and that any
other entry 2 ticks past its due stamp is, is the model's reading of R82 and R63 (log entry 31).
The actions of any list act one after another, each on what the one before it left, as `State.ActionStep` says; what becomes of
each is settled at the start, so that every record of the fire, also one that an action follows, carries REFUSED or SUPPRESSED of
the whole list; and nothing else but the entry changes. -/
def Obligations.FireOutputLevel : Prop :=
  (∀ (s : State) (id : Fin 32) (line : Fin 6) (level : Bool),
    s.sched[id].state = .armed → s.sched[id].due.toNat ≤ s.time.clock.toNat → s.sched[id].actions = [.outputLevel line level] →
    (s.control.op = .active →
      (s.outputs[line].owner = .schedule → s.outputs[line].forced = false →
        ∃ t, exec (.fire id.val) s = .next t ∧
          t.outputs = s.outputs.set line.val { s.outputs[line] with level := level, pulse := none } ∧
          t.sched[id].refused = s.sched[id].refused ∧ t.journal = s.journal ∧ t.counters = s.counters) ∧
      (s.outputs[line].owner ≠ .schedule ∨ s.outputs[line].forced = true →
        ∃ t, exec (.fire id.val) s = .next t ∧ t.outputs = s.outputs ∧
          t.sched[id].refused = satAdd s.sched[id].refused 1 ∧ t.journal = s.journal ∧ t.counters = s.counters)) ∧
    (s.control.op = .held ∨ s.control.op = .backup → s.sched[id].backupEligible = true →
      ∃ t, exec (.fire id.val) s = .next t ∧ t.outputs = s.outputs ∧
        t.sched[id].refused = s.sched[id].refused ∧ t.journal = s.journal ∧ t.counters = s.counters)) ∧
  ∀ (s : State) (id : Fin 32),
    s.sched[id].state = .armed → s.sched[id].due.toNat ≤ s.time.clock.toNat →
    (s.control.op = .active ∨ ((s.control.op = .held ∨ s.control.op = .backup) ∧ s.sched[id].backupEligible = true)) →
    ∀ late : Bool, (late = true ↔
      s.sched[id].atOnce = false ∧ s.sched[id].due.toNat + 1 < s.time.clock.toNat) →
    (∀ (line : Fin 6) (level : Bool) (width : BitVec 16), s.sched[id].actions = [.outputPulse line level width] →
      ∃ (t : State) (l : OutLine), exec (.fire id.val) s = .next t ∧
        l = { s.outputs[line] with
          level := level
          pulse := some ⟨width, match s.outputs[line].pulse with | some p => p.revert | none => s.outputs[line].level⟩ } ∧
        t.outputs = (if s.control.op = .active ∧ s.outputs[line].owner = .schedule ∧ s.outputs[line].forced = false then
          s.outputs.set line.val l else s.outputs) ∧
        t.journal = s.journal ∧ t.counters = s.counters ∧ t.notify = s.notify) ∧
    (∀ (n : Fin 2) (force : Bool), s.sched[id].actions = [.counterStart n force] →
      ∃ (t : State) (reload : Nat) (x : Counter), exec (.fire id.val) s = .next t ∧
        reload = (if s.counters[n].latch = 0 then 65536 else s.counters[n].latch.toNat) ∧
        x = (if force then { s.counters[n] with running := true, value := reload }
          else if s.counters[n].running then s.counters[n]
          else { s.counters[n] with
            running := true
            value := if s.counters[n].value = 0 then reload else s.counters[n].value }) ∧
        t.counters = (if s.control.op = .active then s.counters.set n.val x else s.counters) ∧
        t.outputs = s.outputs ∧ t.journal = s.journal ∧ t.notify = s.notify) ∧
    (∀ n : Fin 2, s.sched[id].actions = [.counterStop n] →
      ∃ (t : State) (x : Counter), exec (.fire id.val) s = .next t ∧ x = { s.counters[n] with running := false } ∧
        t.counters = (if s.control.op = .active then s.counters.set n.val x else s.counters) ∧
        t.outputs = s.outputs ∧ t.journal = s.journal ∧ t.notify = s.notify) ∧
    (s.sched[id].actions = [.notify] →
      ∃ t, exec (.fire id.val) s = .next t ∧ t.notify = s.notify.Raised 2 ∧
        t.outputs = s.outputs ∧ t.journal = s.journal ∧ t.counters = s.counters) ∧
    (∀ userTag : BitVec 16, s.sched[id].actions = [.journal userTag] →
      ∃ t u, exec (.fire id.val) s = .next t ∧
        u = s.append (.scheduleFire id userTag (satAdd s.sched[id].fires 1))
          ⟨false, false, false, late⟩ ∧
        t.journal = u.journal ∧ t.notify = u.notify ∧ t.outputs = s.outputs ∧ t.counters = s.counters) ∧
    (∀ (a : Action) (userTag : BitVec 16), s.sched[id].actions = [a, .journal userTag] → (∀ u, a ≠ .journal u) →
      ∃ (t u : State) (suppressed refused : Bool), exec (.fire id.val) s = .next t ∧
        (suppressed = true ↔ a ≠ .notify ∧ s.control.op ≠ .active) ∧
        (refused = true ↔ s.control.op = .active ∧ ∃ line : Fin 6,
          ((∃ level, a = .outputLevel line level) ∨ ∃ level width, a = .outputPulse line level width) ∧
          (s.outputs[line].owner ≠ .schedule ∨ s.outputs[line].forced = true)) ∧
        u = s.append (.scheduleFire id userTag (satAdd s.sched[id].fires 1))
          ⟨false, suppressed, refused, late⟩ ∧
        t.journal = u.journal) ∧
    (∀ flags : RecordFlags, flags.epoch = false → flags.late = late →
      (flags.suppressed = true ↔ s.control.op ≠ .active ∧
        ∃ a ∈ s.sched[id].actions, a ≠ .notify ∧ ∀ userTag, a ≠ .journal userTag) →
      (flags.refused = true ↔ s.control.op = .active ∧ ∃ a ∈ s.sched[id].actions, ∃ line : Fin 6,
        ((∃ level, a = .outputLevel line level) ∨ ∃ level width, a = .outputPulse line level width) ∧
        (s.outputs[line].owner ≠ .schedule ∨ s.outputs[line].forced = true)) →
      ∃ (t : State) (z : Nat → State), exec (.fire id.val) s = .next t ∧ z 0 = s ∧
        (∀ (i : Nat) (a : Action), s.sched[id].actions[i]? = some a → s.ActionStep id flags a (z i) (z (i + 1))) ∧
        t = { z s.sched[id].actions.length with sched := t.sched })

/-- The advance of an entry that has just fired (R84, R85, R86, R87). Without a period it is SPENT, a budget being then 0 (log entry
16). Without a budget, a SKIP entry then stands at the first occurrence of its grid later than the clock, with every occurrence
between counted as missed, or is SPENT with the epoch-ended note, and a BURST entry that is behind is still due, with at most 64
occurrences to go, and has counted as missed exactly those it passed over; under either policy an entry that keeps up goes to its
next occurrence, and one whose next occurrence lies beyond the epoch end is SPENT with the note. A budget of 0 is used up:
SPENT. With a budget left, an entry that keeps up goes to its next occurrence, or is SPENT at the epoch end; what a SKIP or a BURST entry passes over is taken
from the budget too, and a budget that this uses up makes it SPENT without the epoch-ended note. -/
def Obligations.CatchUp : Prop :=
  (∀ (e : Entry) (p : Span) (clock : Stamp),
    e.state = .armed → e.period = some p → 16 ≤ p.toNat → e.budget = none → e.due.toNat ≤ clock.toNat →
    (e.burst = false →
      ((e.advance clock).state = .spent ∧ (e.advance clock).epochEnded = true ∧ (e.advance clock).due = e.due ∧
        2 ^ 42 - 1 < e.due.toNat + ((clock.toNat - e.due.toNat) / p.toNat + 1) * p.toNat) ∨
      ((e.advance clock).state = .armed ∧ clock.toNat < (e.advance clock).due.toNat ∧
        (e.advance clock).due.toNat ≤ clock.toNat + p.toNat ∧
        ∃ k, (e.advance clock).due.toNat = e.due.toNat + (k + 1) * p.toNat ∧
          (e.advance clock).missed = satAdd e.missed k)) ∧
    (e.burst = true → e.due.toNat + p.toNat ≤ clock.toNat →
      (e.advance clock).state = .armed ∧ (e.advance clock).due.toNat ≤ clock.toNat ∧
      clock.toNat < (e.advance clock).due.toNat + 64 * p.toNat ∧
      ∃ k, (e.advance clock).due.toNat = e.due.toNat + (k + 1) * p.toNat ∧
        (e.advance clock).missed = satAdd e.missed k ∧
        (0 < k → (e.advance clock).due.toNat + 63 * p.toNat ≤ clock.toNat))) ∧
  (∀ (e : Entry) (p : Span) (clock : Stamp) (k : Nat),
    e.state = .armed → e.period = some p → 16 ≤ p.toNat → e.budget = none → e.due.toNat ≤ clock.toNat →
    k = (clock.toNat - e.due.toNat) / p.toNat →
    (2 ^ 42 - 1 < e.due.toNat + p.toNat → e.advance clock = { e with state := .spent, epochEnded := true }) ∧
    (e.due.toNat + p.toNat ≤ 2 ^ 42 - 1 → clock.toNat < e.due.toNat + p.toNat →
      ∃ due : Stamp, due.toNat = e.due.toNat + p.toNat ∧ e.advance clock = { e with due := due }) ∧
    (e.due.toNat + p.toNat ≤ clock.toNat → e.burst = false →
      (2 ^ 42 - 1 < e.due.toNat + (k + 1) * p.toNat →
        e.advance clock = { e with state := .spent, missed := satAdd e.missed k, epochEnded := true }) ∧
      (e.due.toNat + (k + 1) * p.toNat ≤ 2 ^ 42 - 1 →
        ∃ due : Stamp, due.toNat = e.due.toNat + (k + 1) * p.toNat ∧
          e.advance clock = { e with due := due, missed := satAdd e.missed k })) ∧
    (e.due.toNat + p.toNat ≤ clock.toNat → e.burst = true →
      (k ≤ 64 → ∃ due : Stamp, due.toNat = e.due.toNat + p.toNat ∧ e.advance clock = { e with due := due }) ∧
      (64 < k → ∃ due : Stamp, due.toNat = e.due.toNat + (k - 63) * p.toNat ∧
        e.advance clock = { e with due := due, missed := satAdd e.missed (k - 64) }))) ∧
  (∀ (e : Entry) (clock : Stamp), e.period = none →
    e.advance clock = { e with state := .spent, budget := e.budget.map fun _ => 0 }) ∧
  (∀ (e : Entry) (p : Span) (clock : Stamp), e.period = some p → e.budget = some 0 →
    e.advance clock = { e with state := .spent }) ∧
  ∀ (e : Entry) (p : Span) (clock : Stamp) (b : BitVec 16) (k : Nat),
    e.state = .armed → e.period = some p → 16 ≤ p.toNat → e.budget = some b → b ≠ 0 → e.due.toNat ≤ clock.toNat →
    k = (clock.toNat - e.due.toNat) / p.toNat →
    (2 ^ 42 - 1 < e.due.toNat + p.toNat →
      e.advance clock = { e with state := .spent, budget := some 0, epochEnded := true }) ∧
    (e.due.toNat + p.toNat ≤ 2 ^ 42 - 1 → clock.toNat < e.due.toNat + p.toNat →
      ∃ due : Stamp, due.toNat = e.due.toNat + p.toNat ∧ e.advance clock = { e with due := due }) ∧
    (e.due.toNat + p.toNat ≤ clock.toNat → e.burst = false →
      (b.toNat ≤ k →
        e.advance clock = { e with state := .spent, missed := satAdd e.missed b.toNat, budget := some 0 }) ∧
      (k < b.toNat → 2 ^ 42 - 1 < e.due.toNat + (k + 1) * p.toNat →
        e.advance clock =
          { e with state := .spent, missed := satAdd e.missed k, budget := some 0, epochEnded := true }) ∧
      (k < b.toNat → e.due.toNat + (k + 1) * p.toNat ≤ 2 ^ 42 - 1 →
        ∃ (due : Stamp) (left : BitVec 16), due.toNat = e.due.toNat + (k + 1) * p.toNat ∧ left.toNat = b.toNat - k ∧
          e.advance clock = { e with due := due, missed := satAdd e.missed k, budget := some left })) ∧
    (e.due.toNat + p.toNat ≤ clock.toNat → e.burst = true →
      (k ≤ 64 → ∃ due : Stamp, due.toNat = e.due.toNat + p.toNat ∧ e.advance clock = { e with due := due }) ∧
      (64 < k → b.toNat ≤ k - 64 →
        e.advance clock = { e with state := .spent, missed := satAdd e.missed b.toNat, budget := some 0 }) ∧
      (64 < k → k - 64 < b.toNat →
        ∃ (due : Stamp) (left : BitVec 16),
          due.toNat = e.due.toNat + (k - 63) * p.toNat ∧ left.toNat = b.toNat - (k - 64) ∧
          e.advance clock = { e with due := due, missed := satAdd e.missed (k - 64), budget := some left }))

/-- DECODE AND ENCODE AGREE on the actions of a schedule entry: every list of admitted actions is read back from its bytes, and
four bytes that decode to an action are that action's own bytes, so that no bit of them is dropped (R68). -/
def Obligations.ActionsRoundTrip : Prop :=
  (∀ actions : List Action, (∀ a ∈ actions, a.Admitted) → decodeActions (actions.flatMap Action.encode) = some actions) ∧
  (∀ (b0 b1 b2 b3 : Byte) (a : Action), decodeAction b0 b1 b2 b3 = some a → a.encode = [b0, b1, b2, b3] ∧ a.Admitted)

/-! ## The event journal -/

/-- JOURNAL_PULL delivers the smaller of the maximum and the undelivered count, in list order, closes an open LOSS record among
them, moves the cursor past them and changes no other record; a maximum of 0 or above 3 gives RANGE (R105, R107). A record is
delivered as the 16 bytes of R96: its number, kind, flags, stamp, and the payload of its kind, whose class is general from 10H on
(R97, R98, R99, with the state and reason codes of R156 and R172). -/
def Obligations.JournalPullDelivers : Prop :=
  (∀ (s : State) (tag : Tag) (m : Byte) (rest : List Request), s.Ready ⟨.journalPull, tag, [m]⟩ rest →
    (m.toNat = 0 ∨ 3 < m.toNat → exec .journalPull s = .next ((s.took rest).answered tag .range [])) ∧
    (1 ≤ m.toNat → m.toNat ≤ 3 →
      ∃ (n : Nat) (j : Journal),
        n = min m.toNat (s.journal.records.length - s.journal.cursor) ∧
        j.cursor = s.journal.cursor + n ∧ j.nextSeq = s.journal.nextSeq ∧
        j.records.length = s.journal.records.length ∧
        (∀ (i : Nat) (r : Record), s.journal.records[i]? = some r →
          j.records[i]? = some (if s.journal.cursor ≤ i ∧ i < s.journal.cursor + n then { r with opened := false } else r)) ∧
        exec .journalPull s = .next (({ s.took rest with journal := j } : State).answered tag .ok
          (byteOf n :: be16n (s.journal.records.length - s.journal.cursor - n) ++
            ((j.records.drop s.journal.cursor).take n).flatMap Record.encode)))) ∧
  ∀ r : Record, ∃ (kind flags : Byte) (payload : List Byte),
    (flags.getLsbD 0 = r.untimed ∧ flags.getLsbD 1 = r.holdover ∧ flags.getLsbD 2 = r.flags.late ∧
      flags.getLsbD 3 = r.flags.refused ∧ flags.getLsbD 4 = r.flags.suppressed ∧ flags.getLsbD 5 = r.opened ∧
      flags.getLsbD 6 = r.flags.epoch ∧ flags.getLsbD 7 = false) ∧
    (match r.body with
      | .deviceReset cause => kind = 0x01 ∧
        payload = [match cause with | .powerOn => 0 | .pin => 1 | .request => 2, 0, 0, 0, 0, 0]
      | .loss general system => kind = 0x02 ∧ payload = be16 general ++ [system, 0, 0, 0]
      | .watchdogStage left entered reason count => kind = 0x03 ∧
        (let code : WdState → Byte := fun w =>
          match w with
          | .dormant => 0 | .watching => 1 | .warned => 2 | .resetting => 3 | .rearm => 4 | .holding => 5 | .suspended => 6
        payload = [code left, code entered,
          match reason with
          | .start => 0x00 | .stop => 0x01 | .feed => 0x02 | .timeout => 0x03 | .silence => 0x04 | .early => 0x05
          | .token => 0x06 | .grace => 0x07 | .boot => 0x08 | .pulseEnd => 0x09 | .powerDown => 0x0A | .powerUp => 0x0B
          | .reset => 0x0C, byteOf count, 0, 0])
      | .powerDown => kind = 0x04 ∧ payload = [0, 0, 0, 0, 0, 0]
      | .powerUp seconds => kind = 0x05 ∧ payload = be32 seconds ++ [0, 0]
      | .clockFault => kind = 0x06 ∧ payload = [0, 0, 0, 0, 0, 0]
      | .clockRestored holdover => kind = 0x07 ∧ payload = be32 holdover ++ [0, 0]
      | .timeStep old => kind = 0x08 ∧
        payload = be32 (BitVec.ofNat 32 (old.toNat / 1024)) ++ be16n (old.toNat % 1024)
      | .senseEdge line level filter capture value => kind = 0x10 ∧
        payload = [byteOf line.val, if level then 1 else 0, filter,
          match capture with | .none => 0 | .c0 => 1 | .c1 => 2] ++ be16 value
      | .senseSuppressed line count => kind = 0x11 ∧ payload = [byteOf line.val] ++ be16n count ++ [0, 0, 0]
      | .scheduleFire entry userTag fires => kind = 0x12 ∧ payload = [byteOf entry.val] ++ be16 userTag ++ be16 fires ++ [0]
      | .counterExpiry counter count => kind = 0x13 ∧ payload = [byteOf counter.val] ++ be16 count ++ [0, 0, 0]
      | .hostNote bytes => kind = 0x14 ∧ payload = be48 bytes) ∧
    (r.body.recordClass = .general ↔ 0x10 ≤ kind.toNat) ∧ payload.length = 6 ∧
    r.encode = be16 r.seq ++ [kind, flags] ++
      (be32 (BitVec.ofNat 32 (r.stamp.toNat / 1024)) ++ be16n (r.stamp.toNat % 1024)) ++ payload

/-- JOURNAL_ACK, by the three cases of R108, with h the number of the head and c that of the record at the cursor: a number within
the delivered span removes the records from the head up to the last one that is it or precedes it; one that precedes h removes
nothing; any other is refused with RANGE. -/
def Obligations.JournalAckRemoves : Prop :=
  ∀ (s : State) (tag : Tag) (x : BitVec 16) (rest : List Request), s.Ready ⟨.journalAck, tag, be16 x⟩ rest →
    ∀ h c : BitVec 16,
      h = (match s.journal.records with | [] => s.journal.nextSeq | r :: _ => r.seq) →
      c = (match s.journal.records[s.journal.cursor]? with | some r => r.seq | none => s.journal.nextSeq) →
      (c - h).toNat ≤ 32767 →
      ((x - h).toNat < (c - h).toNat →
        ∃ n, 1 ≤ n ∧ n ≤ s.journal.records.length ∧
          (∀ r ∈ s.journal.records.take n, r.seq = x ∨ (1 ≤ (x - r.seq).toNat ∧ (x - r.seq).toNat ≤ 32767)) ∧
          (∀ r, s.journal.records[n]? = some r → ¬(r.seq = x ∨ (1 ≤ (x - r.seq).toNat ∧ (x - r.seq).toNat ≤ 32767))) ∧
          exec .journalAck s = .next (({ s.took rest with journal := { s.journal with
              records := s.journal.records.drop n
              cursor := s.journal.cursor - n } } : State).answered tag .ok (be16n n))) ∧
      (¬(x - h).toNat < (c - h).toNat → 1 ≤ (h - x).toNat → (h - x).toNat ≤ 32767 →
        exec .journalAck s = .next ((s.took rest).answered tag .ok [0, 0])) ∧
      (¬(x - h).toNat < (c - h).toNat → ¬(1 ≤ (h - x).toNat ∧ (h - x).toNat ≤ 32767) →
        exec .journalAck s = .next ((s.took rest).answered tag .range []))

/-- JOURNAL_REWIND moves the cursor to the head, changes nothing else and answers the number of records (R109). -/
def Obligations.JournalRewinds : Prop :=
  ∀ (s : State) (tag : Tag) (p : List Byte) (rest : List Request), s.Ready ⟨.journalRewind, tag, p⟩ rest →
    exec .journalRewind s = .next (({ s.took rest with journal := { s.journal with cursor := 0 } } : State).answered tag .ok
      (be16n s.journal.records.length))

/-- JOURNAL_NOTE. With room in the general class, and no aged head, the note is appended at the tail with the next sequence number
and the time flags of the moment (R55, R100, R110). With the general class full under KEEP_OLDEST and a LOSS record open, the note
is discarded, the loss is counted in place and raises one JOURNAL_LOSS occurrence, and the answer is still OK (R101, R102).
With the general class full and no LOSS record open, one is opened first, evicting the oldest system record if that class is full
too; under KEEP_NEWEST the oldest general record is then evicted and the note appended (R101, R102, R104). With an aged head,
that head is renewed if it is the open LOSS record and otherwise evicted and counted, in a LOSS record opened for it if none is,
which evicts the oldest system record where that class is full (R106).
And a system record that meets a full system class evicts the oldest system record but the open LOSS record, and one more to open
that record if none is open (R101, R103, R104). -/
def Obligations.JournalNoteAppends : Prop :=
  (∀ (s : State) (tag : Tag) (note : BitVec 48) (rest : List Request), s.Ready ⟨.journalNote, tag, be48 note⟩ rest →
    (s.journal.used .general < 240 →
      (∀ r, s.journal.records.head? = some r → r.seq ≠ s.journal.nextSeq + 1 - 32768) →
      ∃ r : Record,
        r = ⟨s.journal.nextSeq, .hostNote note, s.time.clock, !s.time.valid, s.time.source != .xtal,
          ⟨false, false, false, false⟩, false⟩ ∧
        exec .journalNote s = .next (({ s.took rest with journal :=
            { s.journal with records := s.journal.records ++ [r], nextSeq := s.journal.nextSeq + 1 } } : State).answered
          tag .ok (1 :: be16 s.journal.nextSeq))) ∧
    (240 ≤ s.journal.used .general → s.settings.keepNewest = false → (∃ r ∈ s.journal.records, r.opened = true) →
      exec .journalNote s = .next (({ s.took rest with
          journal := { s.journal with records := s.journal.records.map fun r =>
            if r.opened then { r with body := (match r.body with
              | .loss general system => .loss (satAdd general 1) system
              | other => other) } else r }
          notify := s.notify.Raised 1 } : State).answered tag .ok [0, 0, 0]))) ∧
  (∀ (s : State) (tag : Tag) (note : BitVec 48) (rest : List Request), s.Ready ⟨.journalNote, tag, be48 note⟩ rest →
    ∀ (new : BitVec 16 → Body → Bool → Record) (one : RecordClass → Record → Record) (q : BitVec 16) (c : Nat),
      (∀ n b o, new n b o = ⟨n, b, s.time.clock, !s.time.valid, s.time.source != .xtal, ⟨false, false, false, false⟩, o⟩) →
      (∀ k x, one k x = if x.opened then { x with body := match x.body, k with
        | .loss general system, .general => .loss (satAdd general 1) system
        | .loss general system, .system => .loss general (satAdd system 1)
        | other, _ => other } else x) →
      q = s.journal.nextSeq → c = s.journal.cursor →
    -- the general class full, no LOSS record open, no record about to be aged
    (240 ≤ s.journal.used .general → (∀ x ∈ s.journal.records, x.opened = false) →
      (∀ x ∈ s.journal.records, x.seq ≠ q + 1 - 32768 ∧ x.seq ≠ q + 2 - 32768) →
      (s.settings.keepNewest = false → s.journal.used .system < 16 →
        exec .journalNote s = .next (({ s.took rest with
          journal := ⟨s.journal.records ++ [new q (.loss 1 0) true], c, q + 1⟩
          notify := s.notify.Raised 1 } : State).answered tag .ok [0, 0, 0])) ∧
      (s.settings.keepNewest = false → 16 ≤ s.journal.used .system →
        ∀ pre x post, s.journal.records = pre ++ x :: post → x.body.recordClass = .system →
          (∀ y ∈ pre, y.body.recordClass = .general) →
          exec .journalNote s = .next (({ s.took rest with
            journal := ⟨pre ++ post ++ [new q (.loss 1 1) true], if pre.length < c then c - 1 else c, q + 1⟩
            notify := (s.notify.Raised 1).Raised 1 } : State).answered tag .ok [0, 0, 0])) ∧
      (s.settings.keepNewest = true → s.journal.used .system < 16 →
        ∀ pre x post, s.journal.records = pre ++ x :: post → x.body.recordClass = .general →
          (∀ y ∈ pre, y.body.recordClass = .system) →
          exec .journalNote s = .next (({ s.took rest with
            journal := ⟨pre ++ post ++ [new q (.loss 1 0) true, new (q + 1) (.hostNote note) false],
              if pre.length < c then c - 1 else c, q + 2⟩
            notify := s.notify.Raised 1 } : State).answered tag .ok (1 :: be16 (q + 1))))) ∧
    -- both classes full, no LOSS record open, under KEEP_NEWEST: the oldest system record, then the oldest general one
    (240 ≤ s.journal.used .general → 16 ≤ s.journal.used .system → s.settings.keepNewest = true →
      (∀ x ∈ s.journal.records, x.opened = false) →
      (∀ x ∈ s.journal.records, x.seq ≠ q + 1 - 32768 ∧ x.seq ≠ q + 2 - 32768) →
      ∀ pre x post, s.journal.records = pre ++ x :: post → x.body.recordClass = .system →
        (∀ y ∈ pre, y.body.recordClass = .general) →
        ∀ pre' y post', pre ++ post = pre' ++ y :: post' → y.body.recordClass = .general →
          (∀ z ∈ pre', z.body.recordClass = .system) →
          exec .journalNote s = .next (({ s.took rest with
            journal := ⟨pre' ++ post' ++ [new q (.loss 1 1) true, new (q + 1) (.hostNote note) false],
              (let c' := if pre.length < c then c - 1 else c
              if pre'.length < c' then c' - 1 else c'), q + 2⟩
            notify := (s.notify.Raised 1).Raised 1 } : State).answered tag .ok (1 :: be16 (q + 1)))) ∧
    -- the general class full under KEEP_NEWEST, a LOSS record open
    (240 ≤ s.journal.used .general → s.settings.keepNewest = true → (∃ x ∈ s.journal.records, x.opened = true) →
      (∀ x ∈ s.journal.records, x.seq ≠ q + 1 - 32768) →
      ∀ pre x post, s.journal.records = pre ++ x :: post → x.body.recordClass = .general ∧ x.opened = false →
        (∀ y ∈ pre, y.body.recordClass = .system ∨ y.opened = true) →
        exec .journalNote s = .next (({ s.took rest with
          journal := ⟨(pre ++ post).map (one .general) ++ [new q (.hostNote note) false],
            if pre.length < c then c - 1 else c, q + 1⟩
          notify := s.notify.Raised 1 } : State).answered tag .ok (1 :: be16 q))) ∧
    -- room for the note, and an aged head
    (s.journal.used .general < 240 → ∀ h tl, s.journal.records = h :: tl → h.seq = q + 1 - 32768 →
      (h.opened = true → (∀ y ∈ tl, y.seq ≠ q + 2 - 32768) →
        exec .journalNote s = .next (({ s.took rest with
          journal := ⟨tl ++ [new q (.hostNote note) false, { h with seq := q + 1 }], c - 1, q + 2⟩ } : State).answered
          tag .ok (1 :: be16 q))) ∧
      (h.opened = false → (∃ y ∈ tl, y.opened = true) → (∀ y ∈ tl, y.seq ≠ q + 1 - 32768) →
        exec .journalNote s = .next (({ s.took rest with
          journal := ⟨tl.map (one h.body.recordClass) ++ [new q (.hostNote note) false], c - 1, q + 1⟩
          notify := s.notify.Raised 1 } : State).answered tag .ok (1 :: be16 q))) ∧
      (h.opened = false → (∀ y ∈ tl, y.opened = false) → tl.countP (fun y => y.body.recordClass = .system) < 16 →
        (∀ y ∈ tl, y.seq ≠ q + 2 - 32768) →
        exec .journalNote s = .next (({ s.took rest with
          journal := ⟨tl ++ [new q (.hostNote note) false, new (q + 1)
            (match h.body.recordClass with | .general => .loss 1 0 | .system => .loss 0 1) true], c - 1, q + 2⟩
          notify := s.notify.Raised 1 } : State).answered tag .ok (1 :: be16 q))) ∧
      (h.opened = false → (∀ y ∈ tl, y.opened = false) → (∀ y ∈ tl, y.seq ≠ q + 2 - 32768) →
        16 ≤ tl.countP (fun y => y.body.recordClass = .system) →
        ∀ pre x post, tl = pre ++ x :: post → x.body.recordClass = .system →
          (∀ y ∈ pre, y.body.recordClass = .general) →
          exec .journalNote s = .next (({ s.took rest with
            journal := ⟨pre ++ post ++ [new q (.hostNote note) false, new (q + 1)
              (match h.body.recordClass with | .general => .loss 1 1 | .system => .loss 0 2) true],
              (if pre.length < c - 1 then c - 1 - 1 else c - 1), q + 2⟩
            notify := (s.notify.Raised 1).Raised 1 } : State).answered tag .ok (1 :: be16 q))))) ∧
  ∀ (s : State) (body : Body) (flags : RecordFlags) (new : BitVec 16 → Body → RecordFlags → Bool → Record)
    (one : Record → Record) (q : BitVec 16) (c : Nat),
    body.recordClass = .system → 16 ≤ s.journal.used .system →
    (∀ n b f o, new n b f o = ⟨n, b, s.time.clock, !s.time.valid, s.time.source != .xtal, f, o⟩) →
    (∀ x, one x = if x.opened then { x with body := match x.body with
      | .loss general system => .loss general (satAdd system 1)
      | other => other } else x) →
    q = s.journal.nextSeq → c = s.journal.cursor →
    ((∃ x ∈ s.journal.records, x.opened = true) → (∀ x ∈ s.journal.records, x.seq ≠ q + 1 - 32768) →
      ∀ pre x post, s.journal.records = pre ++ x :: post → x.body.recordClass = .system ∧ x.opened = false →
        (∀ y ∈ pre, y.body.recordClass = .general ∨ y.opened = true) →
        s.append body flags = { s with
          journal := ⟨(pre ++ post).map one ++ [new q body flags false], if pre.length < c then c - 1 else c, q + 1⟩
          notify := s.notify.Raised 1 }) ∧
    ((∀ x ∈ s.journal.records, x.opened = false) →
      (∀ x ∈ s.journal.records, x.seq ≠ q + 1 - 32768 ∧ x.seq ≠ q + 2 - 32768) →
      ∀ pre x mid y post, s.journal.records = pre ++ x :: (mid ++ y :: post) →
        x.body.recordClass = .system → y.body.recordClass = .system →
        (∀ z ∈ pre ++ mid, z.body.recordClass = .general) →
        s.append body flags = { s with
          journal := ⟨pre ++ mid ++ post ++ [new q (.loss 0 2) ⟨false, false, false, false⟩ true, new (q + 1) body flags false],
            (let c' := if pre.length < c then c - 1 else c
            if pre.length + mid.length < c' then c' - 1 else c'), q + 2⟩
          notify := (s.notify.Raised 1).Raised 1 })

/-- JOURNAL_STATUS answers the journal's counts, positions and policy, and changes no state (R111). -/
def Obligations.JournalStatusAnswers : Prop :=
  ∀ (s : State) (tag : Tag) (p : List Byte) (rest : List Request), s.Ready ⟨.journalStatus, tag, p⟩ rest →
    exec .journalStatus s = .next ((s.took rest).answered tag .ok
      (be16n s.journal.records.length ++ be16n (s.journal.records.length - s.journal.cursor) ++
        [byteOf (s.journal.records.countP fun r => r.body.recordClass = .general),
          byteOf (s.journal.records.countP fun r => r.body.recordClass = .system)] ++
        be16 s.journal.nextSeq ++
        ([if s.settings.keepNewest then 1 else 0,
          (if s.journal.records = [] then 0 else 1) + (if ∃ r ∈ s.journal.records, r.opened = true then 2 else 0)] :
            List Byte) ++
        be16 (match s.journal.records with | [] => 0 | r :: _ => r.seq) ++
        be16 (match s.journal.records[s.journal.cursor]? with | some r => r.seq | none => s.journal.nextSeq) ++
        be16 (match s.journal.records.find? (fun r => r.opened) with | some r => r.seq | none => 0)))

/-- Every step keeps the journal in order: within its quotas, the cursor in the list, and at most one open LOSS record, which is
undelivered (R93, R95, R97, R101 to R106). -/
def Obligations.JournalInvariantKept : Prop := ∀ s t : State, s.journal.Wf → step s = .next t → t.journal.Wf

/-! ## The sense inputs -/

/-- SENSE_READ answers the raw samples, filtered levels, candidates, restart marks, window position and window counts, and changes
no state (R128). -/
def Obligations.SenseReadAnswers : Prop :=
  ∀ (s : State) (tag : Tag) (p : List Byte) (rest : List Request), s.Ready ⟨.senseRead, tag, p⟩ rest →
    ∃ raw filtered candidates marks : Byte,
      (∀ n : Fin 8, raw.getLsbD n.val = s.sense[n].raw ∧ filtered.getLsbD n.val = s.sense[n].filtered ∧
        candidates.getLsbD n.val = s.sense[n].candidate.isSome ∧ marks.getLsbD n.val = s.sense[n].restart) ∧
      exec .senseRead s = .next ((s.took rest).answered tag .ok
        ([raw, filtered, candidates, marks] ++ be16n (s.time.uptime.toNat % 1024) ++
          (List.finRange 8).flatMap fun n => be16n s.sense[n].windowEvents ++ be16n s.sense[n].windowSuppressed))

/-- RATE_WINDOW_CLOSE at a rate-window boundary returns both window counts of every line to 0; without suppressed edges it makes no
record, and for each line with suppressed edges, S0 to S7 in turn, it makes one SENSE_SUPPRESSED record with the count (R121, R123).
That it acts at a rate-window boundary only is the model's choice (log entry 6). -/
def Obligations.RateWindowCloses : Prop :=
  ∀ s : State, (s.control.op = .active ∨ s.control.op = .held ∨ s.control.op = .backup) →
    s.time.uptime.toNat % 1024 = 0 →
    ∃ t, exec .rateWindowClose s = .next t ∧
      (∀ n : Fin 8, t.sense[n] = { s.sense[n] with windowEvents := 0, windowSuppressed := 0 }) ∧
      ((∀ n : Fin 8, s.sense[n].windowSuppressed = 0) → t = { s with sense := t.sense }) ∧
      (∀ n : Fin 8, s.sense[n].windowSuppressed ≠ 0 → (∀ m : Fin 8, m ≠ n → s.sense[m].windowSuppressed = 0) →
        t = { s.append (.senseSuppressed n s.sense[n].windowSuppressed) ⟨false, false, false, false⟩ with sense := t.sense }) ∧
      (∃ u : Nat → State, u 0 = s ∧
        (∀ n : Fin 8, u (n.val + 1) = if s.sense[n].windowSuppressed = 0 then u n.val
          else (u n.val).append (.senseSuppressed n s.sense[n].windowSuppressed) ⟨false, false, false, false⟩) ∧
        t = { u 8 with sense := t.sense })

/-- CONFIRMED_CHANGE: on a sampled line with no restart to make and F or more samples of its run behind it (more where FILTER was
lowered since), the next one confirms the change; with fewer the command does nothing (log entry 6). A change that does not
match the edge setting changes the line alone; a qualifying edge is a source event and is counted in the window; and it is
recorded, with the captured value and its occurrence, while the rate limit lets it (R117, R118, R120 to R125).
A line with a restart to make, marked or because its mode was OFF at the last boundary, confirms nothing
(R119, R126). That the command makes the confirming sample is the model's choice (log entry 6). -/
def Obligations.ConfirmedChangeJudged : Prop :=
  ∀ (s : State) (n : Fin 8) (level : Bool),
    s.settings.senseEdgeMode n = true →
    (s.control.op = .active ∨ ((s.control.op = .held ∨ s.control.op = .backup) ∧ s.settings.senseWatch n = true)) →
    (s.sense[n].restart = true ∨ s.sense[n].lastEdge = false → exec (.confirmedChange n.val) s = .next s) ∧
    (level = (!s.sense[n].filtered) →
      (s.sense[n].candidate = some level ∧ s.sense[n].stable < (s.settings.senseFilter n).toNat ∨
        s.sense[n].candidate ≠ some level ∧ 0 < (s.settings.senseFilter n).toNat) →
      exec (.confirmedChange n.val) s = .next s) ∧
    (s.sense[n].restart = false → s.sense[n].lastEdge = true → level = (!s.sense[n].filtered) →
    (s.sense[n].candidate = some level ∧ (s.settings.senseFilter n).toNat ≤ s.sense[n].stable ∨
      s.sense[n].candidate ≠ some level ∧ (s.settings.senseFilter n).toNat = 0) →
    let changed : SenseLine := { s.sense[n] with raw := level, filtered := level, candidate := none, stable := 0 }
    let qualifies := match s.settings.senseEdges n with | .rise => level = true | .fall => level = false | .both => True
    let recorded := (s.settings.senseRate n).toNat = 0 ∨
      s.sense[n].windowEvents - s.sense[n].windowSuppressed < (s.settings.senseRate n).toNat
    (¬qualifies → exec (.confirmedChange n.val) s = .next { s with sense := s.sense.set n.val changed }) ∧
    (qualifies → ¬recorded →
      ∃ l : SenseLine,
        l = { changed with windowEvents := changed.windowEvents + 1, windowSuppressed := changed.windowSuppressed + 1 } ∧
        exec (.confirmedChange n.val) s = .next { s with
          sense := s.sense.set n.val l
          signals := { s.signals with edges := s.signals.edges ||| BitVec.twoPow 8 n.val } }) ∧
    (qualifies → recorded →
      ∃ (l : SenseLine) (u v : State),
        l = { changed with windowEvents := changed.windowEvents + 1 } ∧
        u = { s with
          sense := s.sense.set n.val l
          signals := { s.signals with edges := s.signals.edges ||| BitVec.twoPow 8 n.val } } ∧
        v = u.append (.senseEdge n level (s.settings.senseFilter n) (s.settings.senseCapture n)
          (match s.settings.senseCapture n with
            | .none => 0
            | .c0 => BitVec.ofNat 16 s.counters[0].value
            | .c1 => BitVec.ofNat 16 s.counters[1].value)) ⟨false, false, false, false⟩ ∧
        exec (.confirmedChange n.val) s =
          .next (if s.settings.senseNotify n then { v with notify := v.notify.Raised 5 } else v)))

/-- A boundary in HELD, or in BACKUP without the return, freezes what is not backup-watched: no counter and no supervisor state
changes, and a line that is OFF or not backup-watched keeps its sample, level, candidate and stable count (R117, R127, R141,
R157). -/
def Obligations.RestrictedOperationFreezes : Prop :=
  ∀ (s : State) (pins : BitVec 8) (vmain : Bool),
    (s.control.op = .held ∨ (s.control.op = .backup ∧ (vmain = false ∨ s.control.restoreCount < 65))) →
    ∃ t, exec (.tickBoundary pins vmain) s = .next t ∧
      t.counters = s.counters ∧ t.wd = s.wd ∧ t.link = s.link ∧ t.control.op = s.control.op ∧
      ∀ n : Fin 8, s.settings.senseEdgeMode n = false ∨ s.settings.senseWatch n = false →
        t.sense[n].raw = s.sense[n].raw ∧ t.sense[n].filtered = s.sense[n].filtered ∧
        t.sense[n].candidate = s.sense[n].candidate ∧ t.sense[n].stable = s.sense[n].stable

/-! ## The interval counters -/

/-- COUNTER_CONTROL's four operations, COUNTER_LATCH and COUNTER_READ, each on the counter it names and on nothing else, and RANGE
for a counter above 1 and for an operation above 3 (R136, R137, R138); each of COUNTER_CONTROL's four rows answers the latter (log
entry 15). -/
def Obligations.CounterRequests : Prop :=
  ∀ (s : State) (tag : Tag) (rest : List Request),
    (∀ (n : Fin 2) (op : Fin 4), s.Ready ⟨.counterControl, tag, [byteOf n.val, byteOf op.val]⟩ rest →
      ∃ (reload : Nat) (x : Counter) (i : Instr),
        reload = (if s.counters[n].latch = 0 then 65536 else s.counters[n].latch.toNat) ∧
        (match op with
          | 0 => i = .counterStart ∧ x = (if s.counters[n].running then s.counters[n] else
              { s.counters[n] with
                running := true
                value := if s.counters[n].value = 0 then reload else s.counters[n].value })
          | 1 => i = .counterStartForce ∧ x = { s.counters[n] with running := true, value := reload }
          | 2 => i = .counterStop ∧ x = { s.counters[n] with running := false }
          | 3 => i = .counterLoad ∧ x = { s.counters[n] with value := reload }) ∧
        exec i s = .next (({ s.took rest with counters := s.counters.set n.val x } : State).answered tag .ok
          ((bit x.running ||| (bit (decide (x.value = 65536)) <<< 1)) :: be16 (BitVec.ofNat 16 x.value)))) ∧
    (∀ (b op : Byte) (i : Instr), s.Ready ⟨.counterControl, tag, [b, op]⟩ rest →
      (i = .counterStart ∧ op = 0 ∨ i = .counterStartForce ∧ op = 1 ∨ i = .counterStop ∧ op = 2 ∨
        i = .counterLoad ∧ op = 3) → 1 < b.toNat → exec i s = .next ((s.took rest).answered tag .range [])) ∧
    (∀ (b op : Byte) (i : Instr), s.Ready ⟨.counterControl, tag, [b, op]⟩ rest → 3 < op.toNat →
      (i = .counterStart ∨ i = .counterStartForce ∨ i = .counterStop ∨ i = .counterLoad) →
      exec i s = .next ((s.took rest).answered tag .range [])) ∧
    (∀ (b : Byte) (latch : BitVec 16), s.Ready ⟨.counterLatch, tag, b :: be16 latch⟩ rest →
      (1 < b.toNat → exec .counterLatch s = .next ((s.took rest).answered tag .range [])) ∧
      (∀ n : Fin 2, n.val = b.toNat →
        ∃ x : Counter, x = { s.counters[n] with latch := latch } ∧
          exec .counterLatch s = .next
            (({ s.took rest with counters := s.counters.set n.val x } : State).answered tag .ok
              (be16 s.counters[n].latch)))) ∧
    (∀ p, s.Ready ⟨.counterRead, tag, p⟩ rest →
      exec .counterRead s = .next ((s.took rest).answered tag .ok
        ((List.finRange 2).flatMap fun n =>
          be16 (BitVec.ofNat 16 s.counters[n].value) ++ be16 s.counters[n].latch ++
            [bit s.counters[n].running ||| (bit (decide (s.counters[n].value = 65536)) <<< 1)] ++
            be16 s.counters[n].expiries)))

/-- EXPIRY of a RUNNING counter with one event to come: in order the expiry is counted, the latch reloaded, a ONE_SHOT stopped, the
effect applied to an unforced line that the counter owns and to no other, the record made if the journal flag is set, and the
counter's occurrence raised (R133, R134, R135).
That the command makes the last source event is the model's choice (log entry 6). -/
def Obligations.ExpiryEffects : Prop :=
  ∀ (s : State) (n : Fin 2), s.control.op = .active → s.counters[n].running = true → s.counters[n].value = 1 →
    ∃ (x : Counter) (lines : Vector OutLine 6) (u v : State),
      x = ⟨!s.settings.cntOneShot n, if s.counters[n].latch = 0 then 65536 else s.counters[n].latch.toNat,
        s.counters[n].latch, s.counters[n].expiries + 1⟩ ∧
      (∀ m : Fin 6, lines[m] =
        if s.settings.cntEffectLine n = some m ∧ s.outputs[m].forced = false ∧
            s.outputs[m].owner = (if n = 0 then .counter0 else .counter1) then
          match s.settings.cntEffect n, s.outputs[m].pulse with
          | .none, _ => s.outputs[m]
          | .toggle, _ => { s.outputs[m] with level := !s.outputs[m].level, pulse := none }
          | .pulse, none =>
            { s.outputs[m] with level := !s.outputs[m].level, pulse := some ⟨1, s.outputs[m].level⟩, fresh := true }
          | .pulse, some p => { s.outputs[m] with pulse := some ⟨1, p.revert⟩, fresh := true }
        else s.outputs[m]) ∧
      u = { s with counters := s.counters.set n.val x, outputs := lines } ∧
      v = (if s.settings.cntJournal n then
        u.append (.counterExpiry n (s.counters[n].expiries + 1)) ⟨false, false, false, false⟩ else u) ∧
      exec (.expiry n.val) s = .next { v with
        notify := v.notify.Raised (if n = 0 then 3 else 4)
        signals := if n = 0 then { v.signals with c0Expired := true } else v.signals }

/-- Every step keeps every RUNNING counter from being empty, and every value at 65536 or below (R131, R133, R136). -/
def Obligations.CounterInvariantKept : Prop :=
  ∀ s t : State, (∀ n : Fin 2, s.counters[n].Wf) → step s = .next t → ∀ n : Fin 2, t.counters[n].Wf

/-! ## The output lines -/

/-- OUTPUT_WRITE, OUTPUT_PULSE and OUTPUT_CLAIM: a forced line named gives SAFE_HOLD; a line of another owner gives NOT_OWNER to a
write or a pulse; an undefined line, bit, level, width or
owner then gives RANGE; otherwise exactly the lines named change, as R146, R147 and R148 say. -/
def Obligations.OutputRequests : Prop :=
  ∀ (s : State) (tag : Tag) (rest : List Request),
    (∀ mask levels : Byte, s.Ready ⟨.outputWrite, tag, [mask, levels]⟩ rest →
      ((∃ n : Fin 6, mask.getLsbD n.val = true ∧ s.outputs[n].forced = true) →
        exec .outputWrite s = .next ((s.took rest).answered tag .safeHold [])) ∧
      ((∀ n : Fin 6, mask.getLsbD n.val = true → s.outputs[n].forced = false) →
        ((∃ n : Fin 6, mask.getLsbD n.val = true ∧ s.outputs[n].owner ≠ .host) →
          exec .outputWrite s = .next ((s.took rest).answered tag .notOwner [])) ∧
        ((∀ n : Fin 6, mask.getLsbD n.val = true → s.outputs[n].owner = .host) →
          (64 ≤ mask.toNat ∨ 64 ≤ levels.toNat → exec .outputWrite s = .next ((s.took rest).answered tag .range [])) ∧
          (mask.toNat < 64 → levels.toNat < 64 →
            ∃ (lines : Vector OutLine 6) (shown : Byte),
              (∀ n : Fin 6, lines[n] =
                if mask.getLsbD n.val then { s.outputs[n] with level := levels.getLsbD n.val, pulse := none }
                else s.outputs[n]) ∧
              shown.toNat < 64 ∧ (∀ n : Fin 6, shown.getLsbD n.val = lines[n].level) ∧
              exec .outputWrite s = .next (({ s.took rest with outputs := lines } : State).answered tag .ok [shown]))))) ∧
    (∀ (n : Fin 6) (level : Bool) (width : BitVec 16), width ≠ 0 →
      s.Ready ⟨.outputPulse, tag, [byteOf n.val, bit level] ++ be16 width⟩ rest →
      (s.outputs[n].forced = true → exec .outputPulse s = .next ((s.took rest).answered tag .safeHold [])) ∧
      (s.outputs[n].forced = false → s.outputs[n].owner ≠ .host →
        exec .outputPulse s = .next ((s.took rest).answered tag .notOwner [])) ∧
      (s.outputs[n].forced = false → s.outputs[n].owner = .host →
        ∃ (revert : Bool) (replaced : BitVec 16) (l : OutLine),
          revert = (match s.outputs[n].pulse with | some p => p.revert | none => s.outputs[n].level) ∧
          replaced = (match s.outputs[n].pulse with | some p => p.remaining | none => 0) ∧
          l = { s.outputs[n] with level := level, pulse := some ⟨width, revert⟩ } ∧
          exec .outputPulse s = .next (({ s.took rest with outputs := s.outputs.set n.val l } : State).answered tag .ok
            (bit revert :: be16 replaced)))) ∧
    (∀ (n : Fin 6) (owner : Owner),
      s.Ready ⟨.outputClaim, tag, [byteOf n.val,
        match owner with | .host => 0 | .schedule => 1 | .counter0 => 2 | .counter1 => 3]⟩ rest →
      (s.outputs[n].forced = true → exec .outputClaim s = .next ((s.took rest).answered tag .safeHold [])) ∧
      (s.outputs[n].forced = false →
        ∃ l : OutLine, l = { s.outputs[n] with owner := owner, pulse := none } ∧
          exec .outputClaim s = .next (({ s.took rest with outputs := s.outputs.set n.val l } : State).answered tag .ok
            [match s.outputs[n].owner with | .host => 0 | .schedule => 1 | .counter0 => 2 | .counter1 => 3]))) ∧
    (∀ (a level : Byte) (width : BitVec 16), s.Ready ⟨.outputPulse, tag, [a, level] ++ be16 width⟩ rest →
      ((∃ n : Fin 6, n.val = a.toNat ∧ s.outputs[n].forced = true) →
        exec .outputPulse s = .next ((s.took rest).answered tag .safeHold [])) ∧
      ((∃ n : Fin 6, n.val = a.toNat ∧ s.outputs[n].forced = false ∧ s.outputs[n].owner ≠ .host) →
        exec .outputPulse s = .next ((s.took rest).answered tag .notOwner [])) ∧
      ((∀ n : Fin 6, n.val = a.toNat → s.outputs[n].forced = false ∧ s.outputs[n].owner = .host) →
        5 < a.toNat ∨ 1 < level.toNat ∨ width = 0 →
        exec .outputPulse s = .next ((s.took rest).answered tag .range []))) ∧
    (∀ a owner : Byte, s.Ready ⟨.outputClaim, tag, [a, owner]⟩ rest →
      ((∃ n : Fin 6, n.val = a.toNat ∧ s.outputs[n].forced = true) →
        exec .outputClaim s = .next ((s.took rest).answered tag .safeHold [])) ∧
      ((∀ n : Fin 6, n.val = a.toNat → s.outputs[n].forced = false) → 5 < a.toNat ∨ 3 < owner.toNat →
        exec .outputClaim s = .next ((s.took rest).answered tag .range [])))

/-- OUTPUT_READ answers five bytes for each line, from O0 to O5, the pin state by the drive and the level, and changes no state
(R145, R153). REVERT: the count that brings a pulse's remaining to 0 returns the line to its revert level, whoever owns it and
whatever its drive (R149); with more to count, or without a pulse, REVERT does nothing (the model's choice, log entry 6).
The pin of a line follows its drive and level in ACTIVE and HELD, and is high-impedance in BACKUP (R145) and in the power-on hold
(R188); that it is so without a supply too is the model's choice (log entry 28). -/
def Obligations.OutputReadAndRevert : Prop :=
  (∀ (s : State) (tag : Tag) (p : List Byte) (rest : List Request), s.Ready ⟨.outputRead, tag, p⟩ rest →
    exec .outputRead s = .next ((s.took rest).answered tag .ok
      ((List.finRange 6).flatMap fun n =>
        ([(match s.outputs[n].owner with | .host => 0 | .schedule => 1 | .counter0 => 2 | .counter1 => 3),
          bit s.outputs[n].level ||| (bit s.outputs[n].forced <<< 1) |||
            (match s.outputs[n].pulse with | none => 0 | some q => 4 ||| (bit q.revert <<< 3)),
          (match s.settings.outDrive n, s.outputs[n].level with
            | .off, _ => 0
            | .pushPull, false => 1
            | .pushPull, true => 2
            | .openDrain, false => 1
            | .openDrain, true => 0)] : List Byte) ++
        be16 (match s.outputs[n].pulse with | none => 0 | some q => q.remaining)))) ∧
  (∀ (s : State) (n : Fin 6), (s.control.op = .active ∨ s.control.op = .held ∨ s.control.op = .backup) →
    (∀ revert, s.outputs[n].pulse = some ⟨1, revert⟩ → s.outputs[n].fresh = false →
      ∃ l : OutLine, l = { s.outputs[n] with level := revert, pulse := none } ∧
        exec (.revert n.val) s = .next { s with outputs := s.outputs.set n.val l }) ∧
    (∀ k revert, s.outputs[n].pulse = some ⟨k, revert⟩ → 1 < k.toNat → exec (.revert n.val) s = .next s) ∧
    (s.outputs[n].pulse = none → exec (.revert n.val) s = .next s)) ∧
  (∀ (s : State) (n : Fin 6),
    (s.control.op = .active ∨ s.control.op = .held →
      s.outPin n = match s.settings.outDrive n, s.outputs[n].level with
        | .off, _ => .highZ
        | .pushPull, false => .low
        | .pushPull, true => .high
        | .openDrain, false => .low
        | .openDrain, true => .highZ) ∧
    (s.control.op = .backup ∨ s.control.op = .powerOnHold ∨ s.control.op = .unpowered → s.outPin n = .highZ))

/-- Every step keeps the forced flag of every line set exactly while a forcing condition holds for it, with a forced line at its
safe level and without a pulse (R145, R150, R151). -/
def Obligations.ForcingInvariantKept : Prop := ∀ s t : State, s.LinesWf → step s = .next t → t.LinesWf

/-! ## The host supervisor -/

/-- WD_START, WD_STOP and WD_STATUS (R158, R159, R171): the checks in the order of R30, and the change of state with its
record. -/
def Obligations.WatchdogStartStopStatus : Prop :=
  ∀ (s : State) (tag : Tag) (p : List Byte) (rest : List Request),
    (s.Ready ⟨.wdStart, tag, p⟩ rest →
      (s.wd.state ≠ .dormant → exec .wdStart s = .next ((s.took rest).answered tag .state [])) ∧
      (s.wd.state = .dormant → s.settings.wdTimeout ≤ s.settings.wdWindow →
        exec .wdStart s = .next ((s.took rest).answered tag .range [])) ∧
      (s.wd.state = .dormant → s.settings.wdWindow < s.settings.wdTimeout →
        exec .wdStart s = .next ((({ s.took rest with wd := ⟨.watching, 0, 0, 0, 0, 0, s.wd.hostResets⟩ } : State).append
          (.watchdogStage .dormant .watching .start s.wd.hostResets) ⟨false, false, false, false⟩).answered tag .ok []))) ∧
    (s.Ready ⟨.wdStop, tag, p⟩ rest →
      (s.control.locks.supervisor = true → exec .wdStop s = .next ((s.took rest).answered tag .locked [])) ∧
      (s.control.locks.supervisor = false → s.wd.state = .dormant ∨ s.wd.state = .resetting ∨ s.wd.state = .holding →
        exec .wdStop s = .next ((s.took rest).answered tag .state [])) ∧
      (s.control.locks.supervisor = false → s.wd.state = .watching ∨ s.wd.state = .warned ∨ s.wd.state = .rearm →
        exec .wdStop s = .next ((({ s.took rest with wd := { s.wd with state := .dormant, timer := 0 } } : State).append
          (.watchdogStage s.wd.state .dormant .stop s.wd.hostResets) ⟨false, false, false, false⟩).answered tag .ok []))) ∧
    (s.Ready ⟨.wdStatus, tag, p⟩ rest →
      exec .wdStatus s = .next ((s.took rest).answered tag .ok
        ([s.wd.state.code] ++ be16n s.wd.elapsed.toNat ++
          be16n (match s.wd.state with
            | .watching => s.settings.wdTimeout - s.wd.elapsed.toNat
            | .warned | .resetting | .rearm => s.wd.timer.toNat
            | _ => 0) ++
          [s.wd.token, byteOf s.wd.hostResets, byteOf s.wd.goodRun, s.wd.silence])))

/-- WD_FEED by the supervisor's state, window and token (R160, R161, R166): the good feed with its run, the bad feed into WARNED,
the return from WARNED and REARM, the escalation of a wrong token there, and STATE elsewhere. -/
def Obligations.WatchdogFeed : Prop :=
  ∀ (s : State) (tag : Tag) (token : Byte) (rest : List Request), s.Ready ⟨.wdFeed, tag, [token]⟩ rest →
    (s.wd.state = .dormant ∨ s.wd.state = .resetting ∨ s.wd.state = .holding →
      exec .wdFeed s = .next ((s.took rest).answered tag .state [])) ∧
    (s.wd.state = .watching →
      (token = s.wd.token → s.settings.wdWindow ≤ s.wd.elapsed.toNat →
        ∃ w : Supervisor, w = { s.wd with
            elapsed := 0
            token := s.wd.token + 1
            goodRun := if s.wd.goodRun < 16 then s.wd.goodRun + 1 else s.wd.goodRun
            hostResets := if s.wd.goodRun = 15 then 0 else s.wd.hostResets } ∧
          exec .wdFeed s = .next (({ s.took rest with wd := w } : State).answered tag .ok [s.wd.token + 1])) ∧
      (token ≠ s.wd.token →
        exec .wdFeed s = .next (((s.took rest).Warned .token).answered tag .feedFault [2, 0x06])) ∧
      (token = s.wd.token → s.wd.elapsed.toNat < s.settings.wdWindow →
        exec .wdFeed s = .next (((s.took rest).Warned .early).answered tag .feedFault [2, 0x05]))) ∧
    (s.wd.state = .warned ∨ s.wd.state = .rearm →
      (token = s.wd.token →
        exec .wdFeed s = .next ((({ s.took rest with wd := { s.wd with
            state := .watching, elapsed := 0, silence := 0, timer := 0, token := s.wd.token + 1 } } : State).append
          (.watchdogStage s.wd.state .watching .feed s.wd.hostResets) ⟨false, false, false, false⟩).answered tag .ok
            [s.wd.token + 1])) ∧
      (token ≠ s.wd.token →
        ∃ t, (s.took rest).Escalated .token t ∧
          exec .wdFeed s = .next (t.answered tag .feedFault
            [if s.settings.wdRetry < s.wd.hostResets + 1 then 5 else 3, 0x06])))

/-- The five timed transitions, each at the beat that brings it about: TIMEOUT and SILENCE into WARNED, GRACE and BOOT into
RESETTING or HOLDING, PULSE_END into REARM with token 0 and the boot allowance (R157, R162 to R167).
That each command makes the beat that brings its transition about is the model's choice (log entry 6).
HRST is high, holding the host in reset, exactly in RESETTING while the part is ACTIVE, in HOLDING, in BACKUP and in the power-on
hold, and low otherwise (R168, R188); that nothing drives it without a supply is the model's choice (log entry 28). -/
def Obligations.TimedTransitions : Prop :=
  (∀ s : State,
    (s.control.op ≠ .unpowered →
      (s.hrst = .high ↔ (s.wd.state = .resetting ∧ s.control.op = .active) ∨ s.wd.state = .holding ∨ s.control.op = .backup ∨
        s.control.op = .powerOnHold) ∧
      (s.hrst = .high ∨ s.hrst = .low)) ∧
    (s.control.op = .unpowered → s.hrst = .highZ)) ∧
  ∀ s : State, s.control.op = .active →
    (s.wd.state = .watching → s.wd.elapsed.toNat + 1 = s.settings.wdTimeout → s.settings.wdTimeout ≤ 4095 →
      exec .timeout s = .next (({ s with wd := { s.wd with
        elapsed := s.wd.elapsed + 1, silence := satAdd s.wd.silence 1 } } : State).Warned .timeout)) ∧
    (s.wd.state = .watching → s.wd.elapsed.toNat + 1 < s.settings.wdTimeout → s.settings.wdTimeout ≤ 4095 →
      s.settings.wdSilence ≠ 0 → s.settings.wdSilence ≤ s.wd.silence.toNat + 1 →
      exec .silence s = .next (({ s with wd := { s.wd with
        elapsed := s.wd.elapsed + 1, silence := satAdd s.wd.silence 1 } } : State).Warned .silence)) ∧
    (s.wd.state = .warned → s.wd.timer = 1 → ∃ t, s.Escalated .grace t ∧ exec .grace s = .next t) ∧
    (s.wd.state = .rearm → s.wd.timer = 1 → ∃ t, s.Escalated .boot t ∧ exec .boot s = .next t) ∧
    (s.wd.state = .resetting → s.wd.timer = 1 →
      ∃ (u : State) (lines : Vector OutLine 6),
        u = { s with wd := { s.wd with
          state := .rearm, token := 0, timer := BitVec.ofNat 12 (s.settings[0x29].toNat * 16) } } ∧
        u.Reforced lines ∧
        exec .pulseEnd s = .next (({ u with outputs := lines, notify := u.notify.Raised 6 } : State).append
          (.watchdogStage .resetting .rearm .pulseEnd s.wd.hostResets) ⟨false, false, false, false⟩))

/-- Every step keeps the supervisor's counts in their ranges, SUSPENDED within BACKUP, and the stage timer 0 outside the timed
stages, given settings in range (R156, R164, R166, R167, R169). -/
def Obligations.SupervisorInvariantKept : Prop :=
  ∀ s t : State, s.settings.Wf → s.WdWf → step s = .next t → t.WdWf

/-! ## Notification -/

/-- NOTIFY_ENABLE of either operation, NOTIFY_ACK and NOTIFY_READ (R177, R178, R179): exactly the causes named change, a pending
flag only if its cause is an event cause whose count has not moved; a mask, operation or cause out of range gives RANGE, the
operation from both rows of NOTIFY_ENABLE (log entry 15). -/
def Obligations.NotifyRequests : Prop :=
  ∀ (s : State) (tag : Tag) (rest : List Request),
    (∀ mask : BitVec 16, s.Ready ⟨.notifyEnable, tag, be16 mask ++ [0]⟩ rest →
      (4096 ≤ mask.toNat → exec .notifyEnableSet s = .next ((s.took rest).answered tag .range [])) ∧
      (mask.toNat < 4096 → ∃ enabled : BitVec 12,
        (∀ n : Fin 12, enabled.getLsbD n.val = (s.notify.enabled.getLsbD n.val || mask.getLsbD n.val)) ∧
        exec .notifyEnableSet s = .next (({ s.took rest with notify := { s.notify with enabled := enabled } } : State).answered
          tag .ok (be16 (enabled.setWidth 16))))) ∧
    (∀ mask : BitVec 16, s.Ready ⟨.notifyEnable, tag, be16 mask ++ [1]⟩ rest →
      (4096 ≤ mask.toNat → exec .notifyEnableClear s = .next ((s.took rest).answered tag .range [])) ∧
      (mask.toNat < 4096 → ∃ enabled : BitVec 12,
        (∀ n : Fin 12, enabled.getLsbD n.val = (s.notify.enabled.getLsbD n.val && !mask.getLsbD n.val)) ∧
        exec .notifyEnableClear s = .next
          (({ s.took rest with notify := { s.notify with enabled := enabled } } : State).answered
            tag .ok (be16 (enabled.setWidth 16))))) ∧
    (∀ (mask : BitVec 16) (op : Byte), s.Ready ⟨.notifyEnable, tag, be16 mask ++ [op]⟩ rest → 1 < op.toNat →
      exec .notifyEnableSet s = .next ((s.took rest).answered tag .range []) ∧
      exec .notifyEnableClear s = .next ((s.took rest).answered tag .range [])) ∧
    (∀ pairs : List (Byte × Byte), s.Ready ⟨.notifyAck, tag, pairs.flatMap fun x => [x.1, x.2]⟩ rest →
      ((∃ x ∈ pairs, 11 < x.1.toNat) → exec .notifyAck s = .next ((s.took rest).answered tag .range [])) ∧
      ((∀ x ∈ pairs, x.1.toNat ≤ 11) → ∃ pending still : BitVec 12,
        (∀ n : Fin 12, pending.getLsbD n.val = (s.notify.pending.getLsbD n.val &&
          !decide (n ≠ 0 ∧ n ≠ 7 ∧ (byteOf n.val, s.notify.counts[n]) ∈ pairs))) ∧
        (∀ n : Fin 12, still.getLsbD n.val =
          (pending.getLsbD n.val && decide (∃ x ∈ pairs, x.1.toNat = n.val))) ∧
        exec .notifyAck s = .next (({ s.took rest with notify := { s.notify with pending := pending } } : State).answered
          tag .ok (be16 (still.setWidth 16))))) ∧
    (∀ p, s.Ready ⟨.notifyRead, tag, p⟩ rest →
      exec .notifyRead s = .next ((s.took rest).answered tag .ok
        (be16 (s.notify.pending.setWidth 16) ++ be16 (s.notify.enabled.setWidth 16) ++ s.notify.counts.toList)))

/-- Step (h): after a boundary the level causes' pending flags are their conditions, and nINT is asserted in ACTIVE exactly while a
cause is both pending and enabled, and released in HELD and BACKUP (R50, R112, R176, R180). The pin is driven low while nINT is
asserted and high-impedance while it is released (R176). -/
def Obligations.BoundaryRecomputesNint : Prop :=
  (∀ s : State, (s.notify.nint = true → s.nintPin = .low) ∧ (s.notify.nint = false → s.nintPin = .highZ)) ∧
  ∀ (s : State) (pins : BitVec 8) (vmain : Bool),
    (s.control.op = .active ∨ s.control.op = .held ∨ s.control.op = .backup) →
    ∃ t, exec (.tickBoundary pins vmain) s = .next t ∧
      t.notify.pending.getLsbD 0 = decide (t.settings.threshold ≤ t.journal.records.length - t.journal.cursor) ∧
      t.notify.pending.getLsbD 7 = decide (t.time.source ≠ .xtal) ∧
      (t.notify.nint = true ↔ t.control.op = .active ∧
        ∃ n : Fin 12, t.notify.pending.getLsbD n.val = true ∧ t.notify.enabled.getLsbD n.val = true)

/-! ## Operating states, supplies and resets -/

/-- ENTER_HELD in ACTIVE and ENTER_BACKUP in ACTIVE or HELD, each one event in the order of R185 and R186; ENTER_HELD
does nothing in another state. In power-on hold the main fail that ENTER_BACKUP stands for only extends the hold, and in BACKUP it
is no event (R188, R191). That ENTER_BACKUP in the power-on hold stands for a main fail (log entry 7), and that the hold is extended
by returning its run of good RC ticks, kept in the restore count, to 0 (log entry 21), is the model's choice.
That ENTER_HELD does nothing outside ACTIVE and ENTER_BACKUP nothing without a supply, and that ENTER_HELD recognises nRST low, is
the model's choice (log entries 5 and 8). -/
def Obligations.RestrictedEntries : Prop :=
  ∀ s : State,
    (s.control.op = .active →
      ∃ (u : State) (lines : Vector OutLine 6),
        u = { s with
          control := { s.control with op := .held, holdMark := true, nrst := ⟨false, 0, false⟩ }, link := s.link.Flushed } ∧
        u.Reforced lines ∧ exec .enterHeld s = .next ({ u with outputs := lines } : State).Recomputed) ∧
    (s.control.op ≠ .active → exec .enterHeld s = .next s) ∧
    (s.control.op = .active ∨ s.control.op = .held →
      ∃ (u v w : State) (lines : Vector OutLine 6),
        u = ({ s with
          control := { s.control with op := .backup, restoreCount := 0, backupStart := s.time.uptime }
          link := s.link.Flushed } : State).append .powerDown ⟨false, false, false, false⟩ ∧
        v = { u with wd := { u.wd with state := .suspended, timer := 0 } } ∧
        w = (if s.wd.state = .dormant ∨ s.wd.state = .holding ∨ s.wd.state = .suspended then u
          else v.append (.watchdogStage s.wd.state .suspended .powerDown s.wd.hostResets) ⟨false, false, false, false⟩) ∧
        w.Reforced lines ∧ exec .enterBackup s = .next ({ w with outputs := lines } : State).Recomputed) ∧
    (s.control.op = .powerOnHold →
      exec .enterBackup s = .next { s with control := { s.control with restoreCount := 0 } }) ∧
    (s.control.op = .backup ∨ s.control.op = .unpowered → exec .enterBackup s = .next s)

/-- RELEASE in HELD, or in ACTIVE with the hold mark set, and DEVICE_RESET of scope FULL outside HOLDING, by R189 and R190: what
the release sets in every block, and what it does not touch. The journal gains the DEVICE_RESET record with its cause, and a
WATCHDOG_STAGE record with reason RESET if the supervisor's state changes (R170), and nothing else. The notification block is
cleared first: then every count is 0 and no event cause is pending but for what the release raises itself, DEVICE_RESET,
WATCHDOG under the SUPERVISOR lock, and JOURNAL_LOSS for the losses of its own appends; and the level causes are re-evaluated
(R181).
That RELEASE in HELD stands for the recognition of nRST high is the model's choice (log entry 8), and so is RELEASE in ACTIVE (log
entry 10). -/
def Obligations.ReleaseEffects : Prop :=
  ∀ (s t : State) (tag : Tag) (rest : List Request) (cause : ResetCause),
    ((s.control.op = .held ∨ s.control.op = .active ∧ s.control.holdMark = true) ∧ cause = .pin ∧ exec .release s = .next t) ∨
      (s.Ready ⟨.deviceReset, tag, [1]⟩ rest ∧ s.wd.state ≠ .holding ∧ cause = .request ∧
        exec .deviceResetFull s = .next t) →
    t.control.op = .active ∧ t.control.holdMark = false ∧ t.control.locks = s.control.locks ∧
    t.link.errors = 0 ∧
    (∀ i : Fin 44, t.settings[i] =
      if (lockClass i.val = .outputs ∧ s.control.locks.outputs = true) ∨
        (lockClass i.val = .supervisor ∧ s.control.locks.supervisor = true) then s.settings[i] else settingDefault i.val) ∧
    t.time = { s.time with slew := 0, slewHold := false } ∧ t.sched = s.sched ∧
    (∃ u : State,
      u = s.append (.deviceReset cause) ⟨false, false, false, false⟩ ∧
      t.journal = (if t.wd.state = s.wd.state then u.journal
        else (u.append (.watchdogStage s.wd.state t.wd.state .reset 0) ⟨false, false, false, false⟩).journal)) ∧
    (∀ n : Fin 8, t.sense[n] = { s.sense[n] with restart := true }) ∧
    (∀ n : Fin 2, t.counters[n] = ⟨false, 0, 1024, 0⟩) ∧
    (∀ n : Fin 6, t.outputs[n] = ⟨.host, t.settings.outSafe n, none, false, false⟩) ∧
    t.wd = (if s.control.locks.supervisor then
      ⟨.rearm, 0, 0, BitVec.ofNat 12 (s.settings[0x29].toNat * 16), 0, 0, 0⟩ else ⟨.dormant, 0, 0, 0, 0, 0, 0⟩) ∧
    t.notify.enabled = 0 ∧ t.notify.nint = false ∧ t.notify.counts[11] = 1 ∧ t.notify.pending.getLsbD 11 = true ∧
    t.notify.counts[6] = (if s.control.locks.supervisor then 1 else 0) ∧
    (∃ u v : State,
      u = ({ s with notify := ⟨0, 0, Vector.replicate 12 0, false⟩ } : State).append (.deviceReset cause)
        ⟨false, false, false, false⟩ ∧
      v = (if t.wd.state = s.wd.state then u
        else u.append (.watchdogStage s.wd.state t.wd.state .reset 0) ⟨false, false, false, false⟩) ∧
      t.notify.counts[1] = v.notify.counts[1] ∧ t.notify.pending.getLsbD 1 = v.notify.pending.getLsbD 1) ∧
    (∀ n : Fin 12, n ≠ 1 → n ≠ 6 → n ≠ 11 → t.notify.counts[n] = 0) ∧
    (∀ n ∈ [2, 3, 4, 5, 8, 9, 10], t.notify.pending.getLsbD n = false) ∧
    t.notify.pending.getLsbD 6 = s.control.locks.supervisor ∧
    t.notify.pending.getLsbD 0 = decide (t.settings.threshold ≤ t.journal.records.length - t.journal.cursor) ∧
    t.notify.pending.getLsbD 7 = decide (t.time.source ≠ .xtal)

/-- RELEASE, DEVICE_RESET of scope LINK and of scope FULL, and RETURN_FROM_BACKUP complete: RELEASE in HELD; the two scopes when
their request is at the head, LINK with one flush and nothing else, FULL outside HOLDING with a flush and no response, and RANGE
for another scope; and the return from BACKUP into the state that the recognised level of nRST says, with no flush, with its
POWER_UP record and its POWER occurrence, with the re-arming of a SUSPENDED supervisor, its record and its WATCHDOG occurrence, and
with the lines as they stood, forced where a condition then holds (R154). A return into HELD sets the hold mark, and a
return into ACTIVE with the hold mark set is followed by the release (R187, R189, R190). That RELEASE stands for the recognition
of nRST high (log entry 8), that RETURN_FROM_BACKUP completes at any restore count (log entry 7), and that the release is part of
the same command (log entry 10) are the model's choices; that both rows of DEVICE_RESET answer another scope with RANGE is DEDUCED
(log entry 15). -/
def Obligations.ResetsAndReturnComplete : Prop :=
  ∀ (s : State) (tag : Tag) (rest : List Request),
    (s.control.op = .held → ∃ t, exec .release s = .next t ∧ t.control.op = .active ∧ t.link.epoch = s.link.epoch) ∧
    (s.Ready ⟨.deviceReset, tag, [0]⟩ rest →
      exec .deviceResetLink s = .next ({ s with link := s.link.Flushed } : State).Recomputed) ∧
    (s.Ready ⟨.deviceReset, tag, [1]⟩ rest → s.wd.state ≠ .holding →
      ∃ t, exec .deviceResetFull s = .next t ∧ t.control.op = .active ∧ t.link = { s.link.Flushed with errors := 0 }) ∧
    (s.Ready ⟨.deviceReset, tag, [1]⟩ rest → s.wd.state = .holding →
      exec .deviceResetFull s = .next ((s.took rest).answered tag .state [])) ∧
    (∀ scope : Byte, s.Ready ⟨.deviceReset, tag, [scope]⟩ rest → 1 < scope.toNat →
      exec .deviceResetLink s = .next ((s.took rest).answered tag .range []) ∧
      exec .deviceResetFull s = .next ((s.took rest).answered tag .range [])) ∧
    (s.control.op = .backup →
      ∃ t,
        (s.control.holdMark = false ∨ s.control.nrst.recognised = false → exec .returnFromBackup s = .next t) ∧
        (s.control.holdMark = true → s.control.nrst.recognised = true → exec .returnFromBackup s = exec .release t) ∧
        t.control = { s.control with
          op := if s.control.nrst.recognised then .active else .held
          holdMark := s.control.holdMark || !s.control.nrst.recognised
          restoreCount := 0 } ∧
        t.link = s.link ∧ t.time = s.time ∧ t.counters = s.counters ∧ t.settings = s.settings ∧ t.sched = s.sched ∧
        t.notify.pending.getLsbD 9 = true ∧ t.notify.counts[9] = s.notify.counts[9] + 1 ∧
        t.notify.counts[6] = (if s.wd.state = .suspended then s.notify.counts[6] + 1 else s.notify.counts[6]) ∧
        (s.wd.state = .suspended → t.notify.pending.getLsbD 6 = true) ∧
        ({ s with control := t.control, wd := t.wd } : State).Reforced t.outputs ∧
        (∃ u : State,
          u = s.append (.powerUp (BitVec.ofNat 32 ((s.time.uptime - s.control.backupStart).toNat / 1024)))
            ⟨false, false, false, false⟩ ∧
          t.journal = (if s.wd.state = .suspended then
            (u.append (.watchdogStage .suspended .rearm .powerUp s.wd.hostResets) ⟨false, false, false, false⟩).journal
            else u.journal)) ∧
        (s.wd.state ≠ .suspended → t.wd = s.wd) ∧
        (s.wd.state = .suspended → t.wd = { s.wd with
          state := .rearm, token := 0, timer := BitVec.ofNat 12 (s.settings[0x29].toNat * 16) }) ∧
        (∀ n : Fin 8, t.sense[n] = if s.settings.senseWatch n then s.sense[n] else { s.sense[n] with restart := true }))

/-- POWER_LOSS, POWER_ON_HOLD, POWER_ON_RESET and NRST_READING (R183, R184, R188): with both supplies gone nothing is kept; a rise
begins the hold, whose end leaves the power-on values and the POWER_ON record as sequence 0; and a level of nRST is recognised at
its second reading in a row, without action in BACKUP; in ACTIVE the second low one enters HELD, in HELD the second high one makes
the release, and a reading that recognises nothing there changes the readings alone.
That POWER_ON_RESET ends the hold at any count of RC ticks (log entry 7), that a reading acts at once (log entry 9), and that the
blocks hold power-on values without a supply (log entry 20) are the model's choices. -/
def Obligations.SuppliesAndNrst : Prop :=
  ∀ (s : State) (high : Bool),
    (∃ t, exec .powerLoss s = .next t ∧ t.control.op = .unpowered ∧ t.journal = ⟨[], 0, 0⟩ ∧
      t.sched = Vector.replicate 32 .free ∧ t.settings = .default ∧ t.time.clock = 0 ∧ t.time.valid = false ∧
      t.link.requests = [] ∧ t.link.responses = [] ∧ t.notify.pending = 0 ∧ t.control.locks = ⟨false, false, false⟩) ∧
    (s.control.op = .unpowered → exec (.powerOnHold high) s = .next { s with
      control := { s.control with op := .powerOnHold, restoreCount := 0, nrst := ⟨high, 0, high⟩ } }) ∧
    (s.control.op = .powerOnHold →
      ∃ t, exec .powerOnReset s = .next t ∧
        t = { State.reset with
          link := { State.reset.link with txn := if s.link.txn = .idle then .idle else .discarding }
          control := ⟨if s.control.nrst.recognised then .active else .held, !s.control.nrst.recognised, 0, 0, s.control.nrst,
            ⟨false, false, false⟩⟩
          outputs := t.outputs
          freeIndex := s.freeIndex
          pending := s.pending } ∧
        ∀ n : Fin 6, t.outputs[n] = ⟨.host, false, none, false, !s.control.nrst.recognised⟩) ∧
    (s.control.op = .backup ∨ s.control.op = .powerOnHold →
      exec (.nrstReading high) s = .next { s with control := { s.control with
        nrst := ⟨high, 0, if s.control.nrst.last = high then high else s.control.nrst.recognised⟩ } }) ∧
    (s.control.op = .active → s.control.nrst.recognised = true → s.control.nrst.last = false → high = false →
      exec (.nrstReading high) s = exec .enterHeld s) ∧
    (s.control.op = .held → s.control.nrst.recognised = false → s.control.nrst.last = true → high = true →
      exec (.nrstReading high) s = exec .release s) ∧
    (s.control.op = .active ∧ s.control.nrst.recognised = true ∧ (high = true ∨ s.control.nrst.last = true) ∨
      s.control.op = .held ∧ s.control.nrst.recognised = false ∧ (high = false ∨ s.control.nrst.last = false) →
      exec (.nrstReading high) s = .next { s with control := { s.control with
        nrst := ⟨high, 0, s.control.nrst.recognised⟩ } }) ∧
    (s.control.op = .unpowered → exec (.nrstReading high) s = .next s)

/-- The state after a power-on reset with nRST high (tables of R25, R41, R65, R92, R115, R130, R143, R155, R173, R181, R182): what
the spec gives each block, the settings of R35 among it; and in it every invariant holds that every step keeps.
That nRST is high, and so the part ACTIVE, is the model's choice (log entry 19). -/
def Obligations.ResetStateAndInvariants : Prop :=
  State.reset.link.requests = [] ∧ State.reset.link.responses = [] ∧ State.reset.link.lastTag = none ∧
  State.reset.link.verdict = .none ∧ State.reset.link.epoch = false ∧ State.reset.link.errors = 0 ∧
  State.reset.time.clock = 0 ∧ State.reset.time.uptime = 0 ∧ State.reset.time.valid = false ∧
  State.reset.time.source = .rcStartup ∧ State.reset.time.slew = 0 ∧
  State.reset.time.monitor = .notGood 0 ∧ State.reset.time.declaration = none ∧ State.reset.time.gap = 0 ∧
  State.reset.time.divider = 0 ∧ State.reset.time.epochFlag = false ∧ State.reset.time.slewHold = false ∧
  State.reset.time.holdover = 0 ∧
  State.reset.settings.toList =
    List.replicate 8 0x04 ++ List.replicate 8 2 ++ List.replicate 8 0 ++ List.replicate 6 0 ++ [0, 0] ++ [0, 0] ++
      [0, 16] ++ [0, 0xA0, 0, 32, 4, 10, 3, 0] ∧
  (∀ i : Fin 44, settingDefault i.val = State.reset.settings[i]) ∧
  State.reset.journal.cursor = 0 ∧
  (∀ n : Fin 8, State.reset.sense[n] = ⟨false, false, none, 0, true, 0, 0, false⟩) ∧
  (∀ n : Fin 12, State.reset.notify.counts[n] = 0) ∧ State.reset.control.restoreCount = 0 ∧
  State.reset.control.backupStart = 0 ∧
  (∀ id : Fin 32, State.reset.sched[id].state = .free) ∧
  State.reset.journal.records.map Record.encode =
    [[0, 0, 0x01, 0x03, 0, 0, 0, 0, 0, 0, 0x00, 0, 0, 0, 0, 0]] ∧ State.reset.journal.nextSeq = 1 ∧
  (∀ n : Fin 8, State.reset.sense[n].restart = true ∧ State.reset.settings.senseEdgeMode n = false) ∧
  (∀ n : Fin 2, State.reset.counters[n] = ⟨false, 0, 1024, 0⟩) ∧
  (∀ n : Fin 6, State.reset.outputs[n] = ⟨.host, false, none, false, false⟩ ∧ State.reset.outPin n = .highZ) ∧
  State.reset.wd = ⟨.dormant, 0, 0, 0, 0, 0, 0⟩ ∧ State.reset.hrst = .low ∧
  State.reset.notify.enabled = 0 ∧ State.reset.notify.pending = BitVec.twoPow 12 7 ∧ State.reset.notify.nint = false ∧
  State.reset.control.op = .active ∧ State.reset.control.holdMark = false ∧
  State.reset.control.locks = ⟨false, false, false⟩ ∧
  State.reset.journal.Wf ∧ State.reset.LinkWf ∧ State.reset.LinesWf ∧ State.reset.settings.Wf ∧ State.reset.WdWf ∧
  (∀ n : Fin 2, State.reset.counters[n].Wf) ∧ State.reset.time.FlagWf
end

