-- ==== Sys2Proof/Laws/State.lean ====
section
/-! SUPPORT. One lemma per field per update of State: what it is after the update. -/

namespace Sys2Proof.Machine

@[simp] theorem State.setLink_link (s : State) (x : Link) : (s.setLink x).link = x := rfl
@[simp] theorem State.setLink_time (s : State) (x : Link) : (s.setLink x).time = s.time := rfl
@[simp] theorem State.setLink_sched (s : State) (x : Link) : (s.setLink x).sched = s.sched := rfl
@[simp] theorem State.setLink_journal (s : State) (x : Link) : (s.setLink x).journal = s.journal := rfl
@[simp] theorem State.setLink_sense (s : State) (x : Link) : (s.setLink x).sense = s.sense := rfl
@[simp] theorem State.setLink_counters (s : State) (x : Link) : (s.setLink x).counters = s.counters := rfl
@[simp] theorem State.setLink_outputs (s : State) (x : Link) : (s.setLink x).outputs = s.outputs := rfl
@[simp] theorem State.setLink_wd (s : State) (x : Link) : (s.setLink x).wd = s.wd := rfl
@[simp] theorem State.setLink_notify (s : State) (x : Link) : (s.setLink x).notify = s.notify := rfl
@[simp] theorem State.setLink_settings (s : State) (x : Link) : (s.setLink x).settings = s.settings := rfl
@[simp] theorem State.setLink_control (s : State) (x : Link) : (s.setLink x).control = s.control := rfl
@[simp] theorem State.setLink_signals (s : State) (x : Link) : (s.setLink x).signals = s.signals := rfl
@[simp] theorem State.setLink_freeIndex (s : State) (x : Link) : (s.setLink x).freeIndex = s.freeIndex := rfl
@[simp] theorem State.setLink_pending (s : State) (x : Link) : (s.setLink x).pending = s.pending := rfl

@[simp] theorem State.setTime_link (s : State) (x : Timebase) : (s.setTime x).link = s.link := rfl
@[simp] theorem State.setTime_time (s : State) (x : Timebase) : (s.setTime x).time = x := rfl
@[simp] theorem State.setTime_sched (s : State) (x : Timebase) : (s.setTime x).sched = s.sched := rfl
@[simp] theorem State.setTime_journal (s : State) (x : Timebase) : (s.setTime x).journal = s.journal := rfl
@[simp] theorem State.setTime_sense (s : State) (x : Timebase) : (s.setTime x).sense = s.sense := rfl
@[simp] theorem State.setTime_counters (s : State) (x : Timebase) : (s.setTime x).counters = s.counters := rfl
@[simp] theorem State.setTime_outputs (s : State) (x : Timebase) : (s.setTime x).outputs = s.outputs := rfl
@[simp] theorem State.setTime_wd (s : State) (x : Timebase) : (s.setTime x).wd = s.wd := rfl
@[simp] theorem State.setTime_notify (s : State) (x : Timebase) : (s.setTime x).notify = s.notify := rfl
@[simp] theorem State.setTime_settings (s : State) (x : Timebase) : (s.setTime x).settings = s.settings := rfl
@[simp] theorem State.setTime_control (s : State) (x : Timebase) : (s.setTime x).control = s.control := rfl
@[simp] theorem State.setTime_signals (s : State) (x : Timebase) : (s.setTime x).signals = s.signals := rfl
@[simp] theorem State.setTime_freeIndex (s : State) (x : Timebase) : (s.setTime x).freeIndex = s.freeIndex := rfl
@[simp] theorem State.setTime_pending (s : State) (x : Timebase) : (s.setTime x).pending = s.pending := rfl

@[simp] theorem State.setSched_link (s : State) (x : Vector Entry 32) : (s.setSched x).link = s.link := rfl
@[simp] theorem State.setSched_time (s : State) (x : Vector Entry 32) : (s.setSched x).time = s.time := rfl
@[simp] theorem State.setSched_sched (s : State) (x : Vector Entry 32) : (s.setSched x).sched = x := rfl
@[simp] theorem State.setSched_journal (s : State) (x : Vector Entry 32) : (s.setSched x).journal = s.journal := rfl
@[simp] theorem State.setSched_sense (s : State) (x : Vector Entry 32) : (s.setSched x).sense = s.sense := rfl
@[simp] theorem State.setSched_counters (s : State) (x : Vector Entry 32) : (s.setSched x).counters = s.counters := rfl
@[simp] theorem State.setSched_outputs (s : State) (x : Vector Entry 32) : (s.setSched x).outputs = s.outputs := rfl
@[simp] theorem State.setSched_wd (s : State) (x : Vector Entry 32) : (s.setSched x).wd = s.wd := rfl
@[simp] theorem State.setSched_notify (s : State) (x : Vector Entry 32) : (s.setSched x).notify = s.notify := rfl
@[simp] theorem State.setSched_settings (s : State) (x : Vector Entry 32) : (s.setSched x).settings = s.settings := rfl
@[simp] theorem State.setSched_control (s : State) (x : Vector Entry 32) : (s.setSched x).control = s.control := rfl
@[simp] theorem State.setSched_signals (s : State) (x : Vector Entry 32) : (s.setSched x).signals = s.signals := rfl
@[simp] theorem State.setSched_freeIndex (s : State) (x : Vector Entry 32) : (s.setSched x).freeIndex = s.freeIndex := rfl
@[simp] theorem State.setSched_pending (s : State) (x : Vector Entry 32) : (s.setSched x).pending = s.pending := rfl

@[simp] theorem State.setJournal_link (s : State) (x : Journal) : (s.setJournal x).link = s.link := rfl
@[simp] theorem State.setJournal_time (s : State) (x : Journal) : (s.setJournal x).time = s.time := rfl
@[simp] theorem State.setJournal_sched (s : State) (x : Journal) : (s.setJournal x).sched = s.sched := rfl
@[simp] theorem State.setJournal_journal (s : State) (x : Journal) : (s.setJournal x).journal = x := rfl
@[simp] theorem State.setJournal_sense (s : State) (x : Journal) : (s.setJournal x).sense = s.sense := rfl
@[simp] theorem State.setJournal_counters (s : State) (x : Journal) : (s.setJournal x).counters = s.counters := rfl
@[simp] theorem State.setJournal_outputs (s : State) (x : Journal) : (s.setJournal x).outputs = s.outputs := rfl
@[simp] theorem State.setJournal_wd (s : State) (x : Journal) : (s.setJournal x).wd = s.wd := rfl
@[simp] theorem State.setJournal_notify (s : State) (x : Journal) : (s.setJournal x).notify = s.notify := rfl
@[simp] theorem State.setJournal_settings (s : State) (x : Journal) : (s.setJournal x).settings = s.settings := rfl
@[simp] theorem State.setJournal_control (s : State) (x : Journal) : (s.setJournal x).control = s.control := rfl
@[simp] theorem State.setJournal_signals (s : State) (x : Journal) : (s.setJournal x).signals = s.signals := rfl
@[simp] theorem State.setJournal_freeIndex (s : State) (x : Journal) : (s.setJournal x).freeIndex = s.freeIndex := rfl
@[simp] theorem State.setJournal_pending (s : State) (x : Journal) : (s.setJournal x).pending = s.pending := rfl

@[simp] theorem State.setSense_link (s : State) (x : Vector SenseLine 8) : (s.setSense x).link = s.link := rfl
@[simp] theorem State.setSense_time (s : State) (x : Vector SenseLine 8) : (s.setSense x).time = s.time := rfl
@[simp] theorem State.setSense_sched (s : State) (x : Vector SenseLine 8) : (s.setSense x).sched = s.sched := rfl
@[simp] theorem State.setSense_journal (s : State) (x : Vector SenseLine 8) : (s.setSense x).journal = s.journal := rfl
@[simp] theorem State.setSense_sense (s : State) (x : Vector SenseLine 8) : (s.setSense x).sense = x := rfl
@[simp] theorem State.setSense_counters (s : State) (x : Vector SenseLine 8) : (s.setSense x).counters = s.counters := rfl
@[simp] theorem State.setSense_outputs (s : State) (x : Vector SenseLine 8) : (s.setSense x).outputs = s.outputs := rfl
@[simp] theorem State.setSense_wd (s : State) (x : Vector SenseLine 8) : (s.setSense x).wd = s.wd := rfl
@[simp] theorem State.setSense_notify (s : State) (x : Vector SenseLine 8) : (s.setSense x).notify = s.notify := rfl
@[simp] theorem State.setSense_settings (s : State) (x : Vector SenseLine 8) : (s.setSense x).settings = s.settings := rfl
@[simp] theorem State.setSense_control (s : State) (x : Vector SenseLine 8) : (s.setSense x).control = s.control := rfl
@[simp] theorem State.setSense_signals (s : State) (x : Vector SenseLine 8) : (s.setSense x).signals = s.signals := rfl
@[simp] theorem State.setSense_freeIndex (s : State) (x : Vector SenseLine 8) : (s.setSense x).freeIndex = s.freeIndex := rfl
@[simp] theorem State.setSense_pending (s : State) (x : Vector SenseLine 8) : (s.setSense x).pending = s.pending := rfl

@[simp] theorem State.setCounters_link (s : State) (x : Vector Counter 2) : (s.setCounters x).link = s.link := rfl
@[simp] theorem State.setCounters_time (s : State) (x : Vector Counter 2) : (s.setCounters x).time = s.time := rfl
@[simp] theorem State.setCounters_sched (s : State) (x : Vector Counter 2) : (s.setCounters x).sched = s.sched := rfl
@[simp] theorem State.setCounters_journal (s : State) (x : Vector Counter 2) : (s.setCounters x).journal = s.journal := rfl
@[simp] theorem State.setCounters_sense (s : State) (x : Vector Counter 2) : (s.setCounters x).sense = s.sense := rfl
@[simp] theorem State.setCounters_counters (s : State) (x : Vector Counter 2) : (s.setCounters x).counters = x := rfl
@[simp] theorem State.setCounters_outputs (s : State) (x : Vector Counter 2) : (s.setCounters x).outputs = s.outputs := rfl
@[simp] theorem State.setCounters_wd (s : State) (x : Vector Counter 2) : (s.setCounters x).wd = s.wd := rfl
@[simp] theorem State.setCounters_notify (s : State) (x : Vector Counter 2) : (s.setCounters x).notify = s.notify := rfl
@[simp] theorem State.setCounters_settings (s : State) (x : Vector Counter 2) : (s.setCounters x).settings = s.settings := rfl
@[simp] theorem State.setCounters_control (s : State) (x : Vector Counter 2) : (s.setCounters x).control = s.control := rfl
@[simp] theorem State.setCounters_signals (s : State) (x : Vector Counter 2) : (s.setCounters x).signals = s.signals := rfl
@[simp] theorem State.setCounters_freeIndex (s : State) (x : Vector Counter 2) : (s.setCounters x).freeIndex = s.freeIndex := rfl
@[simp] theorem State.setCounters_pending (s : State) (x : Vector Counter 2) : (s.setCounters x).pending = s.pending := rfl

@[simp] theorem State.setOutputs_link (s : State) (x : Vector OutLine 6) : (s.setOutputs x).link = s.link := rfl
@[simp] theorem State.setOutputs_time (s : State) (x : Vector OutLine 6) : (s.setOutputs x).time = s.time := rfl
@[simp] theorem State.setOutputs_sched (s : State) (x : Vector OutLine 6) : (s.setOutputs x).sched = s.sched := rfl
@[simp] theorem State.setOutputs_journal (s : State) (x : Vector OutLine 6) : (s.setOutputs x).journal = s.journal := rfl
@[simp] theorem State.setOutputs_sense (s : State) (x : Vector OutLine 6) : (s.setOutputs x).sense = s.sense := rfl
@[simp] theorem State.setOutputs_counters (s : State) (x : Vector OutLine 6) : (s.setOutputs x).counters = s.counters := rfl
@[simp] theorem State.setOutputs_outputs (s : State) (x : Vector OutLine 6) : (s.setOutputs x).outputs = x := rfl
@[simp] theorem State.setOutputs_wd (s : State) (x : Vector OutLine 6) : (s.setOutputs x).wd = s.wd := rfl
@[simp] theorem State.setOutputs_notify (s : State) (x : Vector OutLine 6) : (s.setOutputs x).notify = s.notify := rfl
@[simp] theorem State.setOutputs_settings (s : State) (x : Vector OutLine 6) : (s.setOutputs x).settings = s.settings := rfl
@[simp] theorem State.setOutputs_control (s : State) (x : Vector OutLine 6) : (s.setOutputs x).control = s.control := rfl
@[simp] theorem State.setOutputs_signals (s : State) (x : Vector OutLine 6) : (s.setOutputs x).signals = s.signals := rfl
@[simp] theorem State.setOutputs_freeIndex (s : State) (x : Vector OutLine 6) : (s.setOutputs x).freeIndex = s.freeIndex := rfl
@[simp] theorem State.setOutputs_pending (s : State) (x : Vector OutLine 6) : (s.setOutputs x).pending = s.pending := rfl

@[simp] theorem State.setWd_link (s : State) (x : Supervisor) : (s.setWd x).link = s.link := rfl
@[simp] theorem State.setWd_time (s : State) (x : Supervisor) : (s.setWd x).time = s.time := rfl
@[simp] theorem State.setWd_sched (s : State) (x : Supervisor) : (s.setWd x).sched = s.sched := rfl
@[simp] theorem State.setWd_journal (s : State) (x : Supervisor) : (s.setWd x).journal = s.journal := rfl
@[simp] theorem State.setWd_sense (s : State) (x : Supervisor) : (s.setWd x).sense = s.sense := rfl
@[simp] theorem State.setWd_counters (s : State) (x : Supervisor) : (s.setWd x).counters = s.counters := rfl
@[simp] theorem State.setWd_outputs (s : State) (x : Supervisor) : (s.setWd x).outputs = s.outputs := rfl
@[simp] theorem State.setWd_wd (s : State) (x : Supervisor) : (s.setWd x).wd = x := rfl
@[simp] theorem State.setWd_notify (s : State) (x : Supervisor) : (s.setWd x).notify = s.notify := rfl
@[simp] theorem State.setWd_settings (s : State) (x : Supervisor) : (s.setWd x).settings = s.settings := rfl
@[simp] theorem State.setWd_control (s : State) (x : Supervisor) : (s.setWd x).control = s.control := rfl
@[simp] theorem State.setWd_signals (s : State) (x : Supervisor) : (s.setWd x).signals = s.signals := rfl
@[simp] theorem State.setWd_freeIndex (s : State) (x : Supervisor) : (s.setWd x).freeIndex = s.freeIndex := rfl
@[simp] theorem State.setWd_pending (s : State) (x : Supervisor) : (s.setWd x).pending = s.pending := rfl

@[simp] theorem State.setNotify_link (s : State) (x : Notification) : (s.setNotify x).link = s.link := rfl
@[simp] theorem State.setNotify_time (s : State) (x : Notification) : (s.setNotify x).time = s.time := rfl
@[simp] theorem State.setNotify_sched (s : State) (x : Notification) : (s.setNotify x).sched = s.sched := rfl
@[simp] theorem State.setNotify_journal (s : State) (x : Notification) : (s.setNotify x).journal = s.journal := rfl
@[simp] theorem State.setNotify_sense (s : State) (x : Notification) : (s.setNotify x).sense = s.sense := rfl
@[simp] theorem State.setNotify_counters (s : State) (x : Notification) : (s.setNotify x).counters = s.counters := rfl
@[simp] theorem State.setNotify_outputs (s : State) (x : Notification) : (s.setNotify x).outputs = s.outputs := rfl
@[simp] theorem State.setNotify_wd (s : State) (x : Notification) : (s.setNotify x).wd = s.wd := rfl
@[simp] theorem State.setNotify_notify (s : State) (x : Notification) : (s.setNotify x).notify = x := rfl
@[simp] theorem State.setNotify_settings (s : State) (x : Notification) : (s.setNotify x).settings = s.settings := rfl
@[simp] theorem State.setNotify_control (s : State) (x : Notification) : (s.setNotify x).control = s.control := rfl
@[simp] theorem State.setNotify_signals (s : State) (x : Notification) : (s.setNotify x).signals = s.signals := rfl
@[simp] theorem State.setNotify_freeIndex (s : State) (x : Notification) : (s.setNotify x).freeIndex = s.freeIndex := rfl
@[simp] theorem State.setNotify_pending (s : State) (x : Notification) : (s.setNotify x).pending = s.pending := rfl

@[simp] theorem State.setSettings_link (s : State) (x : Settings) : (s.setSettings x).link = s.link := rfl
@[simp] theorem State.setSettings_time (s : State) (x : Settings) : (s.setSettings x).time = s.time := rfl
@[simp] theorem State.setSettings_sched (s : State) (x : Settings) : (s.setSettings x).sched = s.sched := rfl
@[simp] theorem State.setSettings_journal (s : State) (x : Settings) : (s.setSettings x).journal = s.journal := rfl
@[simp] theorem State.setSettings_sense (s : State) (x : Settings) : (s.setSettings x).sense = s.sense := rfl
@[simp] theorem State.setSettings_counters (s : State) (x : Settings) : (s.setSettings x).counters = s.counters := rfl
@[simp] theorem State.setSettings_outputs (s : State) (x : Settings) : (s.setSettings x).outputs = s.outputs := rfl
@[simp] theorem State.setSettings_wd (s : State) (x : Settings) : (s.setSettings x).wd = s.wd := rfl
@[simp] theorem State.setSettings_notify (s : State) (x : Settings) : (s.setSettings x).notify = s.notify := rfl
@[simp] theorem State.setSettings_settings (s : State) (x : Settings) : (s.setSettings x).settings = x := rfl
@[simp] theorem State.setSettings_control (s : State) (x : Settings) : (s.setSettings x).control = s.control := rfl
@[simp] theorem State.setSettings_signals (s : State) (x : Settings) : (s.setSettings x).signals = s.signals := rfl
@[simp] theorem State.setSettings_freeIndex (s : State) (x : Settings) : (s.setSettings x).freeIndex = s.freeIndex := rfl
@[simp] theorem State.setSettings_pending (s : State) (x : Settings) : (s.setSettings x).pending = s.pending := rfl

@[simp] theorem State.setControl_link (s : State) (x : Control) : (s.setControl x).link = s.link := rfl
@[simp] theorem State.setControl_time (s : State) (x : Control) : (s.setControl x).time = s.time := rfl
@[simp] theorem State.setControl_sched (s : State) (x : Control) : (s.setControl x).sched = s.sched := rfl
@[simp] theorem State.setControl_journal (s : State) (x : Control) : (s.setControl x).journal = s.journal := rfl
@[simp] theorem State.setControl_sense (s : State) (x : Control) : (s.setControl x).sense = s.sense := rfl
@[simp] theorem State.setControl_counters (s : State) (x : Control) : (s.setControl x).counters = s.counters := rfl
@[simp] theorem State.setControl_outputs (s : State) (x : Control) : (s.setControl x).outputs = s.outputs := rfl
@[simp] theorem State.setControl_wd (s : State) (x : Control) : (s.setControl x).wd = s.wd := rfl
@[simp] theorem State.setControl_notify (s : State) (x : Control) : (s.setControl x).notify = s.notify := rfl
@[simp] theorem State.setControl_settings (s : State) (x : Control) : (s.setControl x).settings = s.settings := rfl
@[simp] theorem State.setControl_control (s : State) (x : Control) : (s.setControl x).control = x := rfl
@[simp] theorem State.setControl_signals (s : State) (x : Control) : (s.setControl x).signals = s.signals := rfl
@[simp] theorem State.setControl_freeIndex (s : State) (x : Control) : (s.setControl x).freeIndex = s.freeIndex := rfl
@[simp] theorem State.setControl_pending (s : State) (x : Control) : (s.setControl x).pending = s.pending := rfl

@[simp] theorem State.setSignals_link (s : State) (x : Signals) : (s.setSignals x).link = s.link := rfl
@[simp] theorem State.setSignals_time (s : State) (x : Signals) : (s.setSignals x).time = s.time := rfl
@[simp] theorem State.setSignals_sched (s : State) (x : Signals) : (s.setSignals x).sched = s.sched := rfl
@[simp] theorem State.setSignals_journal (s : State) (x : Signals) : (s.setSignals x).journal = s.journal := rfl
@[simp] theorem State.setSignals_sense (s : State) (x : Signals) : (s.setSignals x).sense = s.sense := rfl
@[simp] theorem State.setSignals_counters (s : State) (x : Signals) : (s.setSignals x).counters = s.counters := rfl
@[simp] theorem State.setSignals_outputs (s : State) (x : Signals) : (s.setSignals x).outputs = s.outputs := rfl
@[simp] theorem State.setSignals_wd (s : State) (x : Signals) : (s.setSignals x).wd = s.wd := rfl
@[simp] theorem State.setSignals_notify (s : State) (x : Signals) : (s.setSignals x).notify = s.notify := rfl
@[simp] theorem State.setSignals_settings (s : State) (x : Signals) : (s.setSignals x).settings = s.settings := rfl
@[simp] theorem State.setSignals_control (s : State) (x : Signals) : (s.setSignals x).control = s.control := rfl
@[simp] theorem State.setSignals_signals (s : State) (x : Signals) : (s.setSignals x).signals = x := rfl
@[simp] theorem State.setSignals_freeIndex (s : State) (x : Signals) : (s.setSignals x).freeIndex = s.freeIndex := rfl
@[simp] theorem State.setSignals_pending (s : State) (x : Signals) : (s.setSignals x).pending = s.pending := rfl

@[simp] theorem State.setFreeIndex_link (s : State) (x : Nat) : (s.setFreeIndex x).link = s.link := rfl
@[simp] theorem State.setFreeIndex_time (s : State) (x : Nat) : (s.setFreeIndex x).time = s.time := rfl
@[simp] theorem State.setFreeIndex_sched (s : State) (x : Nat) : (s.setFreeIndex x).sched = s.sched := rfl
@[simp] theorem State.setFreeIndex_journal (s : State) (x : Nat) : (s.setFreeIndex x).journal = s.journal := rfl
@[simp] theorem State.setFreeIndex_sense (s : State) (x : Nat) : (s.setFreeIndex x).sense = s.sense := rfl
@[simp] theorem State.setFreeIndex_counters (s : State) (x : Nat) : (s.setFreeIndex x).counters = s.counters := rfl
@[simp] theorem State.setFreeIndex_outputs (s : State) (x : Nat) : (s.setFreeIndex x).outputs = s.outputs := rfl
@[simp] theorem State.setFreeIndex_wd (s : State) (x : Nat) : (s.setFreeIndex x).wd = s.wd := rfl
@[simp] theorem State.setFreeIndex_notify (s : State) (x : Nat) : (s.setFreeIndex x).notify = s.notify := rfl
@[simp] theorem State.setFreeIndex_settings (s : State) (x : Nat) : (s.setFreeIndex x).settings = s.settings := rfl
@[simp] theorem State.setFreeIndex_control (s : State) (x : Nat) : (s.setFreeIndex x).control = s.control := rfl
@[simp] theorem State.setFreeIndex_signals (s : State) (x : Nat) : (s.setFreeIndex x).signals = s.signals := rfl
@[simp] theorem State.setFreeIndex_freeIndex (s : State) (x : Nat) : (s.setFreeIndex x).freeIndex = x := rfl
@[simp] theorem State.setFreeIndex_pending (s : State) (x : Nat) : (s.setFreeIndex x).pending = s.pending := rfl

@[simp] theorem State.setPending_link (s : State) (x : List Instr) : (s.setPending x).link = s.link := rfl
@[simp] theorem State.setPending_time (s : State) (x : List Instr) : (s.setPending x).time = s.time := rfl
@[simp] theorem State.setPending_sched (s : State) (x : List Instr) : (s.setPending x).sched = s.sched := rfl
@[simp] theorem State.setPending_journal (s : State) (x : List Instr) : (s.setPending x).journal = s.journal := rfl
@[simp] theorem State.setPending_sense (s : State) (x : List Instr) : (s.setPending x).sense = s.sense := rfl
@[simp] theorem State.setPending_counters (s : State) (x : List Instr) : (s.setPending x).counters = s.counters := rfl
@[simp] theorem State.setPending_outputs (s : State) (x : List Instr) : (s.setPending x).outputs = s.outputs := rfl
@[simp] theorem State.setPending_wd (s : State) (x : List Instr) : (s.setPending x).wd = s.wd := rfl
@[simp] theorem State.setPending_notify (s : State) (x : List Instr) : (s.setPending x).notify = s.notify := rfl
@[simp] theorem State.setPending_settings (s : State) (x : List Instr) : (s.setPending x).settings = s.settings := rfl
@[simp] theorem State.setPending_control (s : State) (x : List Instr) : (s.setPending x).control = s.control := rfl
@[simp] theorem State.setPending_signals (s : State) (x : List Instr) : (s.setPending x).signals = s.signals := rfl
@[simp] theorem State.setPending_freeIndex (s : State) (x : List Instr) : (s.setPending x).freeIndex = s.freeIndex := rfl
@[simp] theorem State.setPending_pending (s : State) (x : List Instr) : (s.setPending x).pending = x := rfl

end Sys2Proof.Machine
end

