-- ==== Sys2Proof/Laws/Frames.lean ====
section
/-! SUPPORT. What each operation leaves alone: one lemma for each field an operation never changes. -/

namespace Sys2Proof.Machine

/-- A fold of an operation that keeps a part of the state keeps it. -/
theorem State.foldl_frame {α β : Type} (g : State → β) {f : State → α → State} (h : ∀ s x, g (f s x) = g s) (l : List α)
    (s : State) : g (l.foldl f s) = g s := by
  induction l generalizing s with
  | nil => rfl
  | cons x l ih => rw [List.foldl_cons, ih, h]

@[simp] theorem State.raise_link (s : State) (c : Cause) : (s.raise c).link = s.link :=
  rfl

@[simp] theorem State.raise_time (s : State) (c : Cause) : (s.raise c).time = s.time :=
  rfl

@[simp] theorem State.raise_sched (s : State) (c : Cause) : (s.raise c).sched = s.sched :=
  rfl

@[simp] theorem State.raise_journal (s : State) (c : Cause) : (s.raise c).journal = s.journal :=
  rfl

@[simp] theorem State.raise_sense (s : State) (c : Cause) : (s.raise c).sense = s.sense :=
  rfl

@[simp] theorem State.raise_counters (s : State) (c : Cause) : (s.raise c).counters = s.counters :=
  rfl

@[simp] theorem State.raise_outputs (s : State) (c : Cause) : (s.raise c).outputs = s.outputs :=
  rfl

@[simp] theorem State.raise_wd (s : State) (c : Cause) : (s.raise c).wd = s.wd :=
  rfl

@[simp] theorem State.raise_settings (s : State) (c : Cause) : (s.raise c).settings = s.settings :=
  rfl

@[simp] theorem State.raise_control (s : State) (c : Cause) : (s.raise c).control = s.control :=
  rfl

@[simp] theorem State.raise_signals (s : State) (c : Cause) : (s.raise c).signals = s.signals :=
  rfl

@[simp] theorem State.raise_freeIndex (s : State) (c : Cause) : (s.raise c).freeIndex = s.freeIndex :=
  rfl

@[simp] theorem State.raise_pending (s : State) (c : Cause) : (s.raise c).pending = s.pending :=
  rfl

@[simp] theorem State.recompute_link (s : State) : (s.recompute).link = s.link :=
  rfl

@[simp] theorem State.recompute_time (s : State) : (s.recompute).time = s.time :=
  rfl

@[simp] theorem State.recompute_sched (s : State) : (s.recompute).sched = s.sched :=
  rfl

@[simp] theorem State.recompute_journal (s : State) : (s.recompute).journal = s.journal :=
  rfl

@[simp] theorem State.recompute_sense (s : State) : (s.recompute).sense = s.sense :=
  rfl

@[simp] theorem State.recompute_counters (s : State) : (s.recompute).counters = s.counters :=
  rfl

@[simp] theorem State.recompute_outputs (s : State) : (s.recompute).outputs = s.outputs :=
  rfl

@[simp] theorem State.recompute_wd (s : State) : (s.recompute).wd = s.wd :=
  rfl

@[simp] theorem State.recompute_settings (s : State) : (s.recompute).settings = s.settings :=
  rfl

@[simp] theorem State.recompute_control (s : State) : (s.recompute).control = s.control :=
  rfl

@[simp] theorem State.recompute_signals (s : State) : (s.recompute).signals = s.signals :=
  rfl

@[simp] theorem State.recompute_freeIndex (s : State) : (s.recompute).freeIndex = s.freeIndex :=
  rfl

@[simp] theorem State.recompute_pending (s : State) : (s.recompute).pending = s.pending :=
  rfl

@[simp] theorem State.append_link (s : State) (b : Body) (f : RecordFlags) : (s.append b f).link = s.link :=
  rfl

@[simp] theorem State.append_time (s : State) (b : Body) (f : RecordFlags) : (s.append b f).time = s.time :=
  rfl

@[simp] theorem State.append_sched (s : State) (b : Body) (f : RecordFlags) : (s.append b f).sched = s.sched :=
  rfl

@[simp] theorem State.append_sense (s : State) (b : Body) (f : RecordFlags) : (s.append b f).sense = s.sense :=
  rfl

@[simp] theorem State.append_counters (s : State) (b : Body) (f : RecordFlags) : (s.append b f).counters = s.counters :=
  rfl

@[simp] theorem State.append_outputs (s : State) (b : Body) (f : RecordFlags) : (s.append b f).outputs = s.outputs :=
  rfl

@[simp] theorem State.append_wd (s : State) (b : Body) (f : RecordFlags) : (s.append b f).wd = s.wd :=
  rfl

@[simp] theorem State.append_settings (s : State) (b : Body) (f : RecordFlags) : (s.append b f).settings = s.settings :=
  rfl

@[simp] theorem State.append_control (s : State) (b : Body) (f : RecordFlags) : (s.append b f).control = s.control :=
  rfl

@[simp] theorem State.append_signals (s : State) (b : Body) (f : RecordFlags) : (s.append b f).signals = s.signals :=
  rfl

@[simp] theorem State.append_freeIndex (s : State) (b : Body) (f : RecordFlags) : (s.append b f).freeIndex = s.freeIndex :=
  rfl

@[simp] theorem State.append_pending (s : State) (b : Body) (f : RecordFlags) : (s.append b f).pending = s.pending :=
  rfl

@[simp] theorem State.record_link (s : State) (b : Body) : (s.record b).link = s.link :=
  rfl

@[simp] theorem State.record_time (s : State) (b : Body) : (s.record b).time = s.time :=
  rfl

@[simp] theorem State.record_sched (s : State) (b : Body) : (s.record b).sched = s.sched :=
  rfl

@[simp] theorem State.record_sense (s : State) (b : Body) : (s.record b).sense = s.sense :=
  rfl

@[simp] theorem State.record_counters (s : State) (b : Body) : (s.record b).counters = s.counters :=
  rfl

@[simp] theorem State.record_outputs (s : State) (b : Body) : (s.record b).outputs = s.outputs :=
  rfl

@[simp] theorem State.record_wd (s : State) (b : Body) : (s.record b).wd = s.wd :=
  rfl

@[simp] theorem State.record_settings (s : State) (b : Body) : (s.record b).settings = s.settings :=
  rfl

@[simp] theorem State.record_control (s : State) (b : Body) : (s.record b).control = s.control :=
  rfl

@[simp] theorem State.record_signals (s : State) (b : Body) : (s.record b).signals = s.signals :=
  rfl

@[simp] theorem State.record_freeIndex (s : State) (b : Body) : (s.record b).freeIndex = s.freeIndex :=
  rfl

@[simp] theorem State.record_pending (s : State) (b : Body) : (s.record b).pending = s.pending :=
  rfl

@[simp] theorem State.flush_time (s : State) : (s.flush).time = s.time :=
  rfl

@[simp] theorem State.flush_sched (s : State) : (s.flush).sched = s.sched :=
  rfl

@[simp] theorem State.flush_journal (s : State) : (s.flush).journal = s.journal :=
  rfl

@[simp] theorem State.flush_sense (s : State) : (s.flush).sense = s.sense :=
  rfl

@[simp] theorem State.flush_counters (s : State) : (s.flush).counters = s.counters :=
  rfl

@[simp] theorem State.flush_outputs (s : State) : (s.flush).outputs = s.outputs :=
  rfl

@[simp] theorem State.flush_wd (s : State) : (s.flush).wd = s.wd :=
  rfl

@[simp] theorem State.flush_notify (s : State) : (s.flush).notify = s.notify :=
  rfl

@[simp] theorem State.flush_settings (s : State) : (s.flush).settings = s.settings :=
  rfl

@[simp] theorem State.flush_control (s : State) : (s.flush).control = s.control :=
  rfl

@[simp] theorem State.flush_signals (s : State) : (s.flush).signals = s.signals :=
  rfl

@[simp] theorem State.flush_freeIndex (s : State) : (s.flush).freeIndex = s.freeIndex :=
  rfl

@[simp] theorem State.flush_pending (s : State) : (s.flush).pending = s.pending :=
  rfl

@[simp] theorem State.reforce_link (s : State) : (s.reforce).link = s.link :=
  rfl

@[simp] theorem State.reforce_time (s : State) : (s.reforce).time = s.time :=
  rfl

@[simp] theorem State.reforce_sched (s : State) : (s.reforce).sched = s.sched :=
  rfl

@[simp] theorem State.reforce_journal (s : State) : (s.reforce).journal = s.journal :=
  rfl

@[simp] theorem State.reforce_sense (s : State) : (s.reforce).sense = s.sense :=
  rfl

@[simp] theorem State.reforce_counters (s : State) : (s.reforce).counters = s.counters :=
  rfl

@[simp] theorem State.reforce_wd (s : State) : (s.reforce).wd = s.wd :=
  rfl

@[simp] theorem State.reforce_notify (s : State) : (s.reforce).notify = s.notify :=
  rfl

@[simp] theorem State.reforce_settings (s : State) : (s.reforce).settings = s.settings :=
  rfl

@[simp] theorem State.reforce_control (s : State) : (s.reforce).control = s.control :=
  rfl

@[simp] theorem State.reforce_signals (s : State) : (s.reforce).signals = s.signals :=
  rfl

@[simp] theorem State.reforce_freeIndex (s : State) : (s.reforce).freeIndex = s.freeIndex :=
  rfl

@[simp] theorem State.reforce_pending (s : State) : (s.reforce).pending = s.pending :=
  rfl

@[simp] theorem State.modLine_link (s : State) (n : Fin 6) (f : OutLine → OutLine) : (s.modLine n f).link = s.link :=
  rfl

@[simp] theorem State.modLine_time (s : State) (n : Fin 6) (f : OutLine → OutLine) : (s.modLine n f).time = s.time :=
  rfl

@[simp] theorem State.modLine_sched (s : State) (n : Fin 6) (f : OutLine → OutLine) : (s.modLine n f).sched = s.sched :=
  rfl

@[simp] theorem State.modLine_journal (s : State) (n : Fin 6) (f : OutLine → OutLine) : (s.modLine n f).journal = s.journal :=
  rfl

@[simp] theorem State.modLine_sense (s : State) (n : Fin 6) (f : OutLine → OutLine) : (s.modLine n f).sense = s.sense :=
  rfl

@[simp] theorem State.modLine_counters (s : State) (n : Fin 6) (f : OutLine → OutLine) : (s.modLine n f).counters = s.counters :=
  rfl

@[simp] theorem State.modLine_wd (s : State) (n : Fin 6) (f : OutLine → OutLine) : (s.modLine n f).wd = s.wd :=
  rfl

@[simp] theorem State.modLine_notify (s : State) (n : Fin 6) (f : OutLine → OutLine) : (s.modLine n f).notify = s.notify :=
  rfl

@[simp] theorem State.modLine_settings (s : State) (n : Fin 6) (f : OutLine → OutLine) : (s.modLine n f).settings = s.settings :=
  rfl

@[simp] theorem State.modLine_control (s : State) (n : Fin 6) (f : OutLine → OutLine) : (s.modLine n f).control = s.control :=
  rfl

@[simp] theorem State.modLine_signals (s : State) (n : Fin 6) (f : OutLine → OutLine) : (s.modLine n f).signals = s.signals :=
  rfl

@[simp] theorem State.modLine_freeIndex (s : State) (n : Fin 6) (f : OutLine → OutLine) : (s.modLine n f).freeIndex = s.freeIndex :=
  rfl

@[simp] theorem State.modLine_pending (s : State) (n : Fin 6) (f : OutLine → OutLine) : (s.modLine n f).pending = s.pending :=
  rfl

@[simp] theorem State.modCounter_link (s : State) (n : Fin 2) (f : Counter → Counter) : (s.modCounter n f).link = s.link :=
  rfl

@[simp] theorem State.modCounter_time (s : State) (n : Fin 2) (f : Counter → Counter) : (s.modCounter n f).time = s.time :=
  rfl

@[simp] theorem State.modCounter_sched (s : State) (n : Fin 2) (f : Counter → Counter) : (s.modCounter n f).sched = s.sched :=
  rfl

@[simp] theorem State.modCounter_journal (s : State) (n : Fin 2) (f : Counter → Counter) : (s.modCounter n f).journal = s.journal :=
  rfl

@[simp] theorem State.modCounter_sense (s : State) (n : Fin 2) (f : Counter → Counter) : (s.modCounter n f).sense = s.sense :=
  rfl

@[simp] theorem State.modCounter_outputs (s : State) (n : Fin 2) (f : Counter → Counter) : (s.modCounter n f).outputs = s.outputs :=
  rfl

@[simp] theorem State.modCounter_wd (s : State) (n : Fin 2) (f : Counter → Counter) : (s.modCounter n f).wd = s.wd :=
  rfl

@[simp] theorem State.modCounter_notify (s : State) (n : Fin 2) (f : Counter → Counter) : (s.modCounter n f).notify = s.notify :=
  rfl

@[simp] theorem State.modCounter_settings (s : State) (n : Fin 2) (f : Counter → Counter) : (s.modCounter n f).settings = s.settings :=
  rfl

@[simp] theorem State.modCounter_control (s : State) (n : Fin 2) (f : Counter → Counter) : (s.modCounter n f).control = s.control :=
  rfl

@[simp] theorem State.modCounter_signals (s : State) (n : Fin 2) (f : Counter → Counter) : (s.modCounter n f).signals = s.signals :=
  rfl

@[simp] theorem State.modCounter_freeIndex (s : State) (n : Fin 2) (f : Counter → Counter) : (s.modCounter n f).freeIndex = s.freeIndex :=
  rfl

@[simp] theorem State.modCounter_pending (s : State) (n : Fin 2) (f : Counter → Counter) : (s.modCounter n f).pending = s.pending :=
  rfl

@[simp] theorem State.stage_link (s : State) (w : WdState) (r : WdReason) : (s.stage w r).link = s.link :=
  rfl

@[simp] theorem State.stage_time (s : State) (w : WdState) (r : WdReason) : (s.stage w r).time = s.time :=
  rfl

@[simp] theorem State.stage_sched (s : State) (w : WdState) (r : WdReason) : (s.stage w r).sched = s.sched :=
  rfl

@[simp] theorem State.stage_sense (s : State) (w : WdState) (r : WdReason) : (s.stage w r).sense = s.sense :=
  rfl

@[simp] theorem State.stage_counters (s : State) (w : WdState) (r : WdReason) : (s.stage w r).counters = s.counters :=
  rfl

@[simp] theorem State.stage_outputs (s : State) (w : WdState) (r : WdReason) : (s.stage w r).outputs = s.outputs :=
  rfl

@[simp] theorem State.stage_wd (s : State) (w : WdState) (r : WdReason) : (s.stage w r).wd = s.wd :=
  rfl

@[simp] theorem State.stage_settings (s : State) (w : WdState) (r : WdReason) : (s.stage w r).settings = s.settings :=
  rfl

@[simp] theorem State.stage_control (s : State) (w : WdState) (r : WdReason) : (s.stage w r).control = s.control :=
  rfl

@[simp] theorem State.stage_signals (s : State) (w : WdState) (r : WdReason) : (s.stage w r).signals = s.signals :=
  rfl

@[simp] theorem State.stage_freeIndex (s : State) (w : WdState) (r : WdReason) : (s.stage w r).freeIndex = s.freeIndex :=
  rfl

@[simp] theorem State.stage_pending (s : State) (w : WdState) (r : WdReason) : (s.stage w r).pending = s.pending :=
  rfl

@[simp] theorem State.enterWarned_link (s : State) (r : WdReason) : (s.enterWarned r).link = s.link :=
  rfl

@[simp] theorem State.enterWarned_time (s : State) (r : WdReason) : (s.enterWarned r).time = s.time :=
  rfl

@[simp] theorem State.enterWarned_sched (s : State) (r : WdReason) : (s.enterWarned r).sched = s.sched :=
  rfl

@[simp] theorem State.enterWarned_sense (s : State) (r : WdReason) : (s.enterWarned r).sense = s.sense :=
  rfl

@[simp] theorem State.enterWarned_counters (s : State) (r : WdReason) : (s.enterWarned r).counters = s.counters :=
  rfl

@[simp] theorem State.enterWarned_outputs (s : State) (r : WdReason) : (s.enterWarned r).outputs = s.outputs :=
  rfl

@[simp] theorem State.enterWarned_settings (s : State) (r : WdReason) : (s.enterWarned r).settings = s.settings :=
  rfl

@[simp] theorem State.enterWarned_control (s : State) (r : WdReason) : (s.enterWarned r).control = s.control :=
  rfl

@[simp] theorem State.enterWarned_signals (s : State) (r : WdReason) : (s.enterWarned r).signals = s.signals :=
  rfl

@[simp] theorem State.enterWarned_freeIndex (s : State) (r : WdReason) : (s.enterWarned r).freeIndex = s.freeIndex :=
  rfl

@[simp] theorem State.enterWarned_pending (s : State) (r : WdReason) : (s.enterWarned r).pending = s.pending :=
  rfl

@[simp] theorem State.enterResetting_time (s : State) (r : WdReason) : (s.enterResetting r).time = s.time :=
  by unfold State.enterResetting; dsimp only; repeat' split
     all_goals rfl

@[simp] theorem State.enterResetting_sched (s : State) (r : WdReason) : (s.enterResetting r).sched = s.sched :=
  by unfold State.enterResetting; dsimp only; repeat' split
     all_goals rfl

@[simp] theorem State.enterResetting_sense (s : State) (r : WdReason) : (s.enterResetting r).sense = s.sense :=
  by unfold State.enterResetting; dsimp only; repeat' split
     all_goals rfl

@[simp] theorem State.enterResetting_counters (s : State) (r : WdReason) : (s.enterResetting r).counters = s.counters :=
  by unfold State.enterResetting; dsimp only; repeat' split
     all_goals rfl

@[simp] theorem State.enterResetting_settings (s : State) (r : WdReason) : (s.enterResetting r).settings = s.settings :=
  by unfold State.enterResetting; dsimp only; repeat' split
     all_goals rfl

@[simp] theorem State.enterResetting_control (s : State) (r : WdReason) : (s.enterResetting r).control = s.control :=
  by unfold State.enterResetting; dsimp only; repeat' split
     all_goals rfl

@[simp] theorem State.enterResetting_signals (s : State) (r : WdReason) : (s.enterResetting r).signals = s.signals :=
  by unfold State.enterResetting; dsimp only; repeat' split
     all_goals rfl

@[simp] theorem State.enterResetting_freeIndex (s : State) (r : WdReason) : (s.enterResetting r).freeIndex = s.freeIndex :=
  by unfold State.enterResetting; dsimp only; repeat' split
     all_goals rfl

@[simp] theorem State.enterResetting_pending (s : State) (r : WdReason) : (s.enterResetting r).pending = s.pending :=
  by unfold State.enterResetting; dsimp only; repeat' split
     all_goals rfl

@[simp] theorem State.enterRearm_link (s : State) (r : WdReason) : (s.enterRearm r).link = s.link :=
  rfl

@[simp] theorem State.enterRearm_time (s : State) (r : WdReason) : (s.enterRearm r).time = s.time :=
  rfl

@[simp] theorem State.enterRearm_sched (s : State) (r : WdReason) : (s.enterRearm r).sched = s.sched :=
  rfl

@[simp] theorem State.enterRearm_sense (s : State) (r : WdReason) : (s.enterRearm r).sense = s.sense :=
  rfl

@[simp] theorem State.enterRearm_counters (s : State) (r : WdReason) : (s.enterRearm r).counters = s.counters :=
  rfl

@[simp] theorem State.enterRearm_settings (s : State) (r : WdReason) : (s.enterRearm r).settings = s.settings :=
  rfl

@[simp] theorem State.enterRearm_control (s : State) (r : WdReason) : (s.enterRearm r).control = s.control :=
  rfl

@[simp] theorem State.enterRearm_signals (s : State) (r : WdReason) : (s.enterRearm r).signals = s.signals :=
  rfl

@[simp] theorem State.enterRearm_freeIndex (s : State) (r : WdReason) : (s.enterRearm r).freeIndex = s.freeIndex :=
  rfl

@[simp] theorem State.enterRearm_pending (s : State) (r : WdReason) : (s.enterRearm r).pending = s.pending :=
  rfl

@[simp] theorem State.feedBack_link (s : State) : (s.feedBack).link = s.link :=
  rfl

@[simp] theorem State.feedBack_time (s : State) : (s.feedBack).time = s.time :=
  rfl

@[simp] theorem State.feedBack_sched (s : State) : (s.feedBack).sched = s.sched :=
  rfl

@[simp] theorem State.feedBack_sense (s : State) : (s.feedBack).sense = s.sense :=
  rfl

@[simp] theorem State.feedBack_counters (s : State) : (s.feedBack).counters = s.counters :=
  rfl

@[simp] theorem State.feedBack_outputs (s : State) : (s.feedBack).outputs = s.outputs :=
  rfl

@[simp] theorem State.feedBack_settings (s : State) : (s.feedBack).settings = s.settings :=
  rfl

@[simp] theorem State.feedBack_control (s : State) : (s.feedBack).control = s.control :=
  rfl

@[simp] theorem State.feedBack_signals (s : State) : (s.feedBack).signals = s.signals :=
  rfl

@[simp] theorem State.feedBack_freeIndex (s : State) : (s.feedBack).freeIndex = s.freeIndex :=
  rfl

@[simp] theorem State.feedBack_pending (s : State) : (s.feedBack).pending = s.pending :=
  rfl

@[simp] theorem State.enterHeld_time (s : State) : (s.enterHeld).time = s.time :=
  rfl

@[simp] theorem State.enterHeld_sched (s : State) : (s.enterHeld).sched = s.sched :=
  rfl

@[simp] theorem State.enterHeld_journal (s : State) : (s.enterHeld).journal = s.journal :=
  rfl

@[simp] theorem State.enterHeld_sense (s : State) : (s.enterHeld).sense = s.sense :=
  rfl

@[simp] theorem State.enterHeld_counters (s : State) : (s.enterHeld).counters = s.counters :=
  rfl

@[simp] theorem State.enterHeld_wd (s : State) : (s.enterHeld).wd = s.wd :=
  rfl

@[simp] theorem State.enterHeld_settings (s : State) : (s.enterHeld).settings = s.settings :=
  rfl

@[simp] theorem State.enterHeld_signals (s : State) : (s.enterHeld).signals = s.signals :=
  rfl

@[simp] theorem State.enterHeld_freeIndex (s : State) : (s.enterHeld).freeIndex = s.freeIndex :=
  rfl

@[simp] theorem State.enterHeld_pending (s : State) : (s.enterHeld).pending = s.pending :=
  rfl

@[simp] theorem State.suspend_link (s : State) : (s.suspend).link = s.link :=
  by unfold State.suspend; split <;> simp

@[simp] theorem State.suspend_time (s : State) : (s.suspend).time = s.time :=
  by unfold State.suspend; split <;> simp

@[simp] theorem State.suspend_sched (s : State) : (s.suspend).sched = s.sched :=
  by unfold State.suspend; split <;> simp

@[simp] theorem State.suspend_sense (s : State) : (s.suspend).sense = s.sense :=
  by unfold State.suspend; split <;> simp

@[simp] theorem State.suspend_counters (s : State) : (s.suspend).counters = s.counters :=
  by unfold State.suspend; split <;> simp

@[simp] theorem State.suspend_outputs (s : State) : (s.suspend).outputs = s.outputs :=
  by unfold State.suspend; split <;> simp

@[simp] theorem State.suspend_settings (s : State) : (s.suspend).settings = s.settings :=
  by unfold State.suspend; split <;> simp

@[simp] theorem State.suspend_control (s : State) : (s.suspend).control = s.control :=
  by unfold State.suspend; split <;> simp

@[simp] theorem State.suspend_signals (s : State) : (s.suspend).signals = s.signals :=
  by unfold State.suspend; split <;> simp

@[simp] theorem State.suspend_freeIndex (s : State) : (s.suspend).freeIndex = s.freeIndex :=
  by unfold State.suspend; split <;> simp

@[simp] theorem State.suspend_pending (s : State) : (s.suspend).pending = s.pending :=
  by unfold State.suspend; split <;> simp

@[simp] theorem State.enterBackup_time (s : State) : (s.enterBackup).time = s.time :=
  by simp [State.enterBackup]

@[simp] theorem State.enterBackup_sched (s : State) : (s.enterBackup).sched = s.sched :=
  by simp [State.enterBackup]

@[simp] theorem State.enterBackup_sense (s : State) : (s.enterBackup).sense = s.sense :=
  by simp [State.enterBackup]

@[simp] theorem State.enterBackup_counters (s : State) : (s.enterBackup).counters = s.counters :=
  by simp [State.enterBackup]

@[simp] theorem State.enterBackup_settings (s : State) : (s.enterBackup).settings = s.settings :=
  by simp [State.enterBackup]

@[simp] theorem State.enterBackup_signals (s : State) : (s.enterBackup).signals = s.signals :=
  by simp [State.enterBackup]

@[simp] theorem State.enterBackup_freeIndex (s : State) : (s.enterBackup).freeIndex = s.freeIndex :=
  by simp [State.enterBackup]

@[simp] theorem State.enterBackup_pending (s : State) : (s.enterBackup).pending = s.pending :=
  by simp [State.enterBackup]

@[simp] theorem State.releaseBlocks_sched (s : State) (c : ResetCause) : (s.releaseBlocks c).sched = s.sched :=
  rfl

@[simp] theorem State.releaseBlocks_wd (s : State) (c : ResetCause) : (s.releaseBlocks c).wd = s.wd :=
  rfl

@[simp] theorem State.releaseBlocks_control (s : State) (c : ResetCause) : (s.releaseBlocks c).control = s.control :=
  rfl

@[simp] theorem State.releaseBlocks_signals (s : State) (c : ResetCause) : (s.releaseBlocks c).signals = s.signals :=
  rfl

@[simp] theorem State.releaseBlocks_freeIndex (s : State) (c : ResetCause) : (s.releaseBlocks c).freeIndex = s.freeIndex :=
  rfl

@[simp] theorem State.releaseBlocks_pending (s : State) (c : ResetCause) : (s.releaseBlocks c).pending = s.pending :=
  rfl

@[simp] theorem State.releaseWd_link (s : State) : (s.releaseWd).link = s.link :=
  by unfold State.releaseWd; dsimp only; repeat' split
     all_goals rfl

@[simp] theorem State.releaseWd_time (s : State) : (s.releaseWd).time = s.time :=
  by unfold State.releaseWd; dsimp only; repeat' split
     all_goals rfl

@[simp] theorem State.releaseWd_sched (s : State) : (s.releaseWd).sched = s.sched :=
  by unfold State.releaseWd; dsimp only; repeat' split
     all_goals rfl

@[simp] theorem State.releaseWd_sense (s : State) : (s.releaseWd).sense = s.sense :=
  by unfold State.releaseWd; dsimp only; repeat' split
     all_goals rfl

@[simp] theorem State.releaseWd_counters (s : State) : (s.releaseWd).counters = s.counters :=
  by unfold State.releaseWd; dsimp only; repeat' split
     all_goals rfl

@[simp] theorem State.releaseWd_outputs (s : State) : (s.releaseWd).outputs = s.outputs :=
  by unfold State.releaseWd; dsimp only; repeat' split
     all_goals rfl

@[simp] theorem State.releaseWd_settings (s : State) : (s.releaseWd).settings = s.settings :=
  by unfold State.releaseWd; dsimp only; repeat' split
     all_goals rfl

@[simp] theorem State.releaseWd_control (s : State) : (s.releaseWd).control = s.control :=
  by unfold State.releaseWd; dsimp only; repeat' split
     all_goals rfl

@[simp] theorem State.releaseWd_signals (s : State) : (s.releaseWd).signals = s.signals :=
  by unfold State.releaseWd; dsimp only; repeat' split
     all_goals rfl

@[simp] theorem State.releaseWd_freeIndex (s : State) : (s.releaseWd).freeIndex = s.freeIndex :=
  by unfold State.releaseWd; dsimp only; repeat' split
     all_goals rfl

@[simp] theorem State.releaseWd_pending (s : State) : (s.releaseWd).pending = s.pending :=
  by unfold State.releaseWd; dsimp only; repeat' split
     all_goals rfl

@[simp] theorem State.release_sched (s : State) (c : ResetCause) : (s.release c).sched = s.sched :=
  by unfold State.release; dsimp only; repeat' split
     all_goals first | rfl | simp

@[simp] theorem State.release_signals (s : State) (c : ResetCause) : (s.release c).signals = s.signals :=
  by unfold State.release; dsimp only; repeat' split
     all_goals first | rfl | simp

@[simp] theorem State.release_freeIndex (s : State) (c : ResetCause) : (s.release c).freeIndex = s.freeIndex :=
  by unfold State.release; dsimp only; repeat' split
     all_goals first | rfl | simp

@[simp] theorem State.release_pending (s : State) (c : ResetCause) : (s.release c).pending = s.pending :=
  by unfold State.release; dsimp only; repeat' split
     all_goals first | rfl | simp

@[simp] theorem State.sourceChange_link (s : State) : (s.sourceChange).link = s.link :=
  by unfold State.sourceChange; split <;> simp

@[simp] theorem State.sourceChange_sched (s : State) : (s.sourceChange).sched = s.sched :=
  by unfold State.sourceChange; split <;> simp

@[simp] theorem State.sourceChange_sense (s : State) : (s.sourceChange).sense = s.sense :=
  by unfold State.sourceChange; split <;> simp

@[simp] theorem State.sourceChange_counters (s : State) : (s.sourceChange).counters = s.counters :=
  by unfold State.sourceChange; split <;> simp

@[simp] theorem State.sourceChange_outputs (s : State) : (s.sourceChange).outputs = s.outputs :=
  by unfold State.sourceChange; split <;> simp

@[simp] theorem State.sourceChange_wd (s : State) : (s.sourceChange).wd = s.wd :=
  by unfold State.sourceChange; split <;> simp

@[simp] theorem State.sourceChange_settings (s : State) : (s.sourceChange).settings = s.settings :=
  by unfold State.sourceChange; split <;> simp

@[simp] theorem State.sourceChange_control (s : State) : (s.sourceChange).control = s.control :=
  by unfold State.sourceChange; split <;> simp

@[simp] theorem State.sourceChange_signals (s : State) : (s.sourceChange).signals = s.signals :=
  by unfold State.sourceChange; split <;> simp

@[simp] theorem State.sourceChange_freeIndex (s : State) : (s.sourceChange).freeIndex = s.freeIndex :=
  by unfold State.sourceChange; split <;> simp

@[simp] theorem State.sourceChange_pending (s : State) : (s.sourceChange).pending = s.pending :=
  by unfold State.sourceChange; split <;> simp

@[simp] theorem State.epochEndEvent_link (s : State) : (s.epochEndEvent).link = s.link :=
  by unfold State.epochEndEvent; split <;> simp

@[simp] theorem State.epochEndEvent_sched (s : State) : (s.epochEndEvent).sched = s.sched :=
  by unfold State.epochEndEvent; split <;> simp

@[simp] theorem State.epochEndEvent_sense (s : State) : (s.epochEndEvent).sense = s.sense :=
  by unfold State.epochEndEvent; split <;> simp

@[simp] theorem State.epochEndEvent_counters (s : State) : (s.epochEndEvent).counters = s.counters :=
  by unfold State.epochEndEvent; split <;> simp

@[simp] theorem State.epochEndEvent_outputs (s : State) : (s.epochEndEvent).outputs = s.outputs :=
  by unfold State.epochEndEvent; split <;> simp

@[simp] theorem State.epochEndEvent_wd (s : State) : (s.epochEndEvent).wd = s.wd :=
  by unfold State.epochEndEvent; split <;> simp

@[simp] theorem State.epochEndEvent_settings (s : State) : (s.epochEndEvent).settings = s.settings :=
  by unfold State.epochEndEvent; split <;> simp

@[simp] theorem State.epochEndEvent_control (s : State) : (s.epochEndEvent).control = s.control :=
  by unfold State.epochEndEvent; split <;> simp

@[simp] theorem State.epochEndEvent_signals (s : State) : (s.epochEndEvent).signals = s.signals :=
  by unfold State.epochEndEvent; split <;> simp

@[simp] theorem State.epochEndEvent_freeIndex (s : State) : (s.epochEndEvent).freeIndex = s.freeIndex :=
  by unfold State.epochEndEvent; split <;> simp

@[simp] theorem State.epochEndEvent_pending (s : State) : (s.epochEndEvent).pending = s.pending :=
  by unfold State.epochEndEvent; split <;> simp

@[simp] theorem State.stepA_link (s : State) : (s.stepA).link = s.link :=
  by simp [State.stepA]

@[simp] theorem State.stepA_sched (s : State) : (s.stepA).sched = s.sched :=
  by simp [State.stepA]

@[simp] theorem State.stepA_sense (s : State) : (s.stepA).sense = s.sense :=
  by simp [State.stepA]

@[simp] theorem State.stepA_counters (s : State) : (s.stepA).counters = s.counters :=
  by simp [State.stepA]

@[simp] theorem State.stepA_outputs (s : State) : (s.stepA).outputs = s.outputs :=
  by simp [State.stepA]

@[simp] theorem State.stepA_wd (s : State) : (s.stepA).wd = s.wd :=
  by simp [State.stepA]

@[simp] theorem State.stepA_settings (s : State) : (s.stepA).settings = s.settings :=
  by simp [State.stepA]

@[simp] theorem State.stepA_control (s : State) : (s.stepA).control = s.control :=
  by simp [State.stepA]

@[simp] theorem State.stepA_signals (s : State) : (s.stepA).signals = s.signals :=
  by simp [State.stepA]

@[simp] theorem State.stepA_freeIndex (s : State) : (s.stepA).freeIndex = s.freeIndex :=
  by simp [State.stepA]

@[simp] theorem State.stepA_pending (s : State) : (s.stepA).pending = s.pending :=
  by simp [State.stepA]

@[simp] theorem State.setClock_link (s : State) (x : Stamp) : (s.setClock x).link = s.link :=
  rfl

@[simp] theorem State.setClock_sense (s : State) (x : Stamp) : (s.setClock x).sense = s.sense :=
  rfl

@[simp] theorem State.setClock_counters (s : State) (x : Stamp) : (s.setClock x).counters = s.counters :=
  rfl

@[simp] theorem State.setClock_outputs (s : State) (x : Stamp) : (s.setClock x).outputs = s.outputs :=
  rfl

@[simp] theorem State.setClock_wd (s : State) (x : Stamp) : (s.setClock x).wd = s.wd :=
  rfl

@[simp] theorem State.setClock_settings (s : State) (x : Stamp) : (s.setClock x).settings = s.settings :=
  rfl

@[simp] theorem State.setClock_control (s : State) (x : Stamp) : (s.setClock x).control = s.control :=
  rfl

@[simp] theorem State.setClock_signals (s : State) (x : Stamp) : (s.setClock x).signals = s.signals :=
  rfl

@[simp] theorem State.setClock_freeIndex (s : State) (x : Stamp) : (s.setClock x).freeIndex = s.freeIndex :=
  rfl

@[simp] theorem State.setClock_pending (s : State) (x : Stamp) : (s.setClock x).pending = s.pending :=
  rfl

@[simp] theorem State.modEntry_link (s : State) (id : Fin 32) (f : Entry → Entry) : (s.modEntry id f).link = s.link :=
  rfl

@[simp] theorem State.modEntry_time (s : State) (id : Fin 32) (f : Entry → Entry) : (s.modEntry id f).time = s.time :=
  rfl

@[simp] theorem State.modEntry_journal (s : State) (id : Fin 32) (f : Entry → Entry) : (s.modEntry id f).journal = s.journal :=
  rfl

@[simp] theorem State.modEntry_sense (s : State) (id : Fin 32) (f : Entry → Entry) : (s.modEntry id f).sense = s.sense :=
  rfl

@[simp] theorem State.modEntry_counters (s : State) (id : Fin 32) (f : Entry → Entry) : (s.modEntry id f).counters = s.counters :=
  rfl

@[simp] theorem State.modEntry_outputs (s : State) (id : Fin 32) (f : Entry → Entry) : (s.modEntry id f).outputs = s.outputs :=
  rfl

@[simp] theorem State.modEntry_wd (s : State) (id : Fin 32) (f : Entry → Entry) : (s.modEntry id f).wd = s.wd :=
  rfl

@[simp] theorem State.modEntry_notify (s : State) (id : Fin 32) (f : Entry → Entry) : (s.modEntry id f).notify = s.notify :=
  rfl

@[simp] theorem State.modEntry_settings (s : State) (id : Fin 32) (f : Entry → Entry) : (s.modEntry id f).settings = s.settings :=
  rfl

@[simp] theorem State.modEntry_control (s : State) (id : Fin 32) (f : Entry → Entry) : (s.modEntry id f).control = s.control :=
  rfl

@[simp] theorem State.modEntry_signals (s : State) (id : Fin 32) (f : Entry → Entry) : (s.modEntry id f).signals = s.signals :=
  rfl

@[simp] theorem State.modEntry_freeIndex (s : State) (id : Fin 32) (f : Entry → Entry) : (s.modEntry id f).freeIndex = s.freeIndex :=
  rfl

@[simp] theorem State.modEntry_pending (s : State) (id : Fin 32) (f : Entry → Entry) : (s.modEntry id f).pending = s.pending :=
  rfl

@[simp] theorem State.act_link (s : State) (id : Fin 32) (k : BitVec 16) (f : RecordFlags) (a : Action) : (s.act id k f a).link = s.link :=
  by unfold State.act; split <;> simp

@[simp] theorem State.act_time (s : State) (id : Fin 32) (k : BitVec 16) (f : RecordFlags) (a : Action) : (s.act id k f a).time = s.time :=
  by unfold State.act; split <;> simp

@[simp] theorem State.act_sched (s : State) (id : Fin 32) (k : BitVec 16) (f : RecordFlags) (a : Action) : (s.act id k f a).sched = s.sched :=
  by unfold State.act; split <;> simp

@[simp] theorem State.act_sense (s : State) (id : Fin 32) (k : BitVec 16) (f : RecordFlags) (a : Action) : (s.act id k f a).sense = s.sense :=
  by unfold State.act; split <;> simp

@[simp] theorem State.act_wd (s : State) (id : Fin 32) (k : BitVec 16) (f : RecordFlags) (a : Action) : (s.act id k f a).wd = s.wd :=
  by unfold State.act; split <;> simp

@[simp] theorem State.act_settings (s : State) (id : Fin 32) (k : BitVec 16) (f : RecordFlags) (a : Action) : (s.act id k f a).settings = s.settings :=
  by unfold State.act; split <;> simp

@[simp] theorem State.act_control (s : State) (id : Fin 32) (k : BitVec 16) (f : RecordFlags) (a : Action) : (s.act id k f a).control = s.control :=
  by unfold State.act; split <;> simp

@[simp] theorem State.act_signals (s : State) (id : Fin 32) (k : BitVec 16) (f : RecordFlags) (a : Action) : (s.act id k f a).signals = s.signals :=
  by unfold State.act; split <;> simp

@[simp] theorem State.act_freeIndex (s : State) (id : Fin 32) (k : BitVec 16) (f : RecordFlags) (a : Action) : (s.act id k f a).freeIndex = s.freeIndex :=
  by unfold State.act; split <;> simp

@[simp] theorem State.act_pending (s : State) (id : Fin 32) (k : BitVec 16) (f : RecordFlags) (a : Action) : (s.act id k f a).pending = s.pending :=
  by unfold State.act; split <;> simp

@[simp] theorem State.fireEntry_link (s : State) (id : Fin 32) : (s.fireEntry id).link = s.link :=
  by
  unfold State.fireEntry
  dsimp only
  rw [State.modEntry_link, State.foldl_frame (fun s : State => s.link)]
  · simp
  · intro s x; split <;> simp

@[simp] theorem State.fireEntry_time (s : State) (id : Fin 32) : (s.fireEntry id).time = s.time :=
  by
  unfold State.fireEntry
  dsimp only
  rw [State.modEntry_time, State.foldl_frame (fun s : State => s.time)]
  · simp
  · intro s x; split <;> simp

@[simp] theorem State.fireEntry_sense (s : State) (id : Fin 32) : (s.fireEntry id).sense = s.sense :=
  by
  unfold State.fireEntry
  dsimp only
  rw [State.modEntry_sense, State.foldl_frame (fun s : State => s.sense)]
  · simp
  · intro s x; split <;> simp

@[simp] theorem State.fireEntry_wd (s : State) (id : Fin 32) : (s.fireEntry id).wd = s.wd :=
  by
  unfold State.fireEntry
  dsimp only
  rw [State.modEntry_wd, State.foldl_frame (fun s : State => s.wd)]
  · simp
  · intro s x; split <;> simp

@[simp] theorem State.fireEntry_settings (s : State) (id : Fin 32) : (s.fireEntry id).settings = s.settings :=
  by
  unfold State.fireEntry
  dsimp only
  rw [State.modEntry_settings, State.foldl_frame (fun s : State => s.settings)]
  · simp
  · intro s x; split <;> simp

@[simp] theorem State.fireEntry_control (s : State) (id : Fin 32) : (s.fireEntry id).control = s.control :=
  by
  unfold State.fireEntry
  dsimp only
  rw [State.modEntry_control, State.foldl_frame (fun s : State => s.control)]
  · simp
  · intro s x; split <;> simp

@[simp] theorem State.fireEntry_signals (s : State) (id : Fin 32) : (s.fireEntry id).signals = s.signals :=
  by
  unfold State.fireEntry
  dsimp only
  rw [State.modEntry_signals, State.foldl_frame (fun s : State => s.signals)]
  · simp
  · intro s x; split <;> simp

@[simp] theorem State.fireEntry_freeIndex (s : State) (id : Fin 32) : (s.fireEntry id).freeIndex = s.freeIndex :=
  by
  unfold State.fireEntry
  dsimp only
  rw [State.modEntry_freeIndex, State.foldl_frame (fun s : State => s.freeIndex)]
  · simp
  · intro s x; split <;> simp

@[simp] theorem State.fireEntry_pending (s : State) (id : Fin 32) : (s.fireEntry id).pending = s.pending :=
  by
  unfold State.fireEntry
  dsimp only
  rw [State.modEntry_pending, State.foldl_frame (fun s : State => s.pending)]
  · simp
  · intro s x; split <;> simp

@[simp] theorem State.stepF_link (s : State) : (s.stepF).link = s.link :=
  by unfold State.stepF; simp only [State.setSched]; exact State.foldl_frame (fun s : State => s.link) (fun s x => by simp) _ _

@[simp] theorem State.stepF_time (s : State) : (s.stepF).time = s.time :=
  by unfold State.stepF; simp only [State.setSched]; exact State.foldl_frame (fun s : State => s.time) (fun s x => by simp) _ _

@[simp] theorem State.stepF_sense (s : State) : (s.stepF).sense = s.sense :=
  by unfold State.stepF; simp only [State.setSched]; exact State.foldl_frame (fun s : State => s.sense) (fun s x => by simp) _ _

@[simp] theorem State.stepF_wd (s : State) : (s.stepF).wd = s.wd :=
  by unfold State.stepF; simp only [State.setSched]; exact State.foldl_frame (fun s : State => s.wd) (fun s x => by simp) _ _

@[simp] theorem State.stepF_settings (s : State) : (s.stepF).settings = s.settings :=
  by unfold State.stepF; simp only [State.setSched]; exact State.foldl_frame (fun s : State => s.settings) (fun s x => by simp) _ _

@[simp] theorem State.stepF_control (s : State) : (s.stepF).control = s.control :=
  by unfold State.stepF; simp only [State.setSched]; exact State.foldl_frame (fun s : State => s.control) (fun s x => by simp) _ _

@[simp] theorem State.stepF_signals (s : State) : (s.stepF).signals = s.signals :=
  by unfold State.stepF; simp only [State.setSched]; exact State.foldl_frame (fun s : State => s.signals) (fun s x => by simp) _ _

@[simp] theorem State.stepF_freeIndex (s : State) : (s.stepF).freeIndex = s.freeIndex :=
  by unfold State.stepF; simp only [State.setSched]; exact State.foldl_frame (fun s : State => s.freeIndex) (fun s x => by simp) _ _

@[simp] theorem State.stepF_pending (s : State) : (s.stepF).pending = s.pending :=
  by unfold State.stepF; simp only [State.setSched]; exact State.foldl_frame (fun s : State => s.pending) (fun s x => by simp) _ _

@[simp] theorem State.modSense_link (s : State) (n : Fin 8) (f : SenseLine → SenseLine) : (s.modSense n f).link = s.link :=
  rfl

@[simp] theorem State.modSense_time (s : State) (n : Fin 8) (f : SenseLine → SenseLine) : (s.modSense n f).time = s.time :=
  rfl

@[simp] theorem State.modSense_sched (s : State) (n : Fin 8) (f : SenseLine → SenseLine) : (s.modSense n f).sched = s.sched :=
  rfl

@[simp] theorem State.modSense_journal (s : State) (n : Fin 8) (f : SenseLine → SenseLine) : (s.modSense n f).journal = s.journal :=
  rfl

@[simp] theorem State.modSense_counters (s : State) (n : Fin 8) (f : SenseLine → SenseLine) : (s.modSense n f).counters = s.counters :=
  rfl

@[simp] theorem State.modSense_outputs (s : State) (n : Fin 8) (f : SenseLine → SenseLine) : (s.modSense n f).outputs = s.outputs :=
  rfl

@[simp] theorem State.modSense_wd (s : State) (n : Fin 8) (f : SenseLine → SenseLine) : (s.modSense n f).wd = s.wd :=
  rfl

@[simp] theorem State.modSense_notify (s : State) (n : Fin 8) (f : SenseLine → SenseLine) : (s.modSense n f).notify = s.notify :=
  rfl

@[simp] theorem State.modSense_settings (s : State) (n : Fin 8) (f : SenseLine → SenseLine) : (s.modSense n f).settings = s.settings :=
  rfl

@[simp] theorem State.modSense_control (s : State) (n : Fin 8) (f : SenseLine → SenseLine) : (s.modSense n f).control = s.control :=
  rfl

@[simp] theorem State.modSense_signals (s : State) (n : Fin 8) (f : SenseLine → SenseLine) : (s.modSense n f).signals = s.signals :=
  rfl

@[simp] theorem State.modSense_freeIndex (s : State) (n : Fin 8) (f : SenseLine → SenseLine) : (s.modSense n f).freeIndex = s.freeIndex :=
  rfl

@[simp] theorem State.modSense_pending (s : State) (n : Fin 8) (f : SenseLine → SenseLine) : (s.modSense n f).pending = s.pending :=
  rfl

@[simp] theorem State.closeWindow_link (s : State) (n : Fin 8) : (s.closeWindow n).link = s.link :=
  by unfold State.closeWindow; split <;> simp

@[simp] theorem State.closeWindow_time (s : State) (n : Fin 8) : (s.closeWindow n).time = s.time :=
  by unfold State.closeWindow; split <;> simp

@[simp] theorem State.closeWindow_sched (s : State) (n : Fin 8) : (s.closeWindow n).sched = s.sched :=
  by unfold State.closeWindow; split <;> simp

@[simp] theorem State.closeWindow_sense (s : State) (n : Fin 8) : (s.closeWindow n).sense = s.sense :=
  by unfold State.closeWindow; split <;> simp

@[simp] theorem State.closeWindow_counters (s : State) (n : Fin 8) : (s.closeWindow n).counters = s.counters :=
  by unfold State.closeWindow; split <;> simp

@[simp] theorem State.closeWindow_outputs (s : State) (n : Fin 8) : (s.closeWindow n).outputs = s.outputs :=
  by unfold State.closeWindow; split <;> simp

@[simp] theorem State.closeWindow_wd (s : State) (n : Fin 8) : (s.closeWindow n).wd = s.wd :=
  by unfold State.closeWindow; split <;> simp

@[simp] theorem State.closeWindow_settings (s : State) (n : Fin 8) : (s.closeWindow n).settings = s.settings :=
  by unfold State.closeWindow; split <;> simp

@[simp] theorem State.closeWindow_control (s : State) (n : Fin 8) : (s.closeWindow n).control = s.control :=
  by unfold State.closeWindow; split <;> simp

@[simp] theorem State.closeWindow_signals (s : State) (n : Fin 8) : (s.closeWindow n).signals = s.signals :=
  by unfold State.closeWindow; split <;> simp

@[simp] theorem State.closeWindow_freeIndex (s : State) (n : Fin 8) : (s.closeWindow n).freeIndex = s.freeIndex :=
  by unfold State.closeWindow; split <;> simp

@[simp] theorem State.closeWindow_pending (s : State) (n : Fin 8) : (s.closeWindow n).pending = s.pending :=
  by unfold State.closeWindow; split <;> simp

@[simp] theorem State.stepB_link (s : State) : (s.stepB).link = s.link :=
  by unfold State.stepB; simp only [State.setSense_link]; exact State.foldl_frame (fun s : State => s.link) (fun s x => by simp) _ _

@[simp] theorem State.stepB_time (s : State) : (s.stepB).time = s.time :=
  by unfold State.stepB; simp only [State.setSense_time]; exact State.foldl_frame (fun s : State => s.time) (fun s x => by simp) _ _

@[simp] theorem State.stepB_sched (s : State) : (s.stepB).sched = s.sched :=
  by unfold State.stepB; simp only [State.setSense_sched]; exact State.foldl_frame (fun s : State => s.sched) (fun s x => by simp) _ _

@[simp] theorem State.stepB_counters (s : State) : (s.stepB).counters = s.counters :=
  by unfold State.stepB; simp only [State.setSense_counters]; exact State.foldl_frame (fun s : State => s.counters) (fun s x => by simp) _ _

@[simp] theorem State.stepB_outputs (s : State) : (s.stepB).outputs = s.outputs :=
  by unfold State.stepB; simp only [State.setSense_outputs]; exact State.foldl_frame (fun s : State => s.outputs) (fun s x => by simp) _ _

@[simp] theorem State.stepB_wd (s : State) : (s.stepB).wd = s.wd :=
  by unfold State.stepB; simp only [State.setSense_wd]; exact State.foldl_frame (fun s : State => s.wd) (fun s x => by simp) _ _

@[simp] theorem State.stepB_settings (s : State) : (s.stepB).settings = s.settings :=
  by unfold State.stepB; simp only [State.setSense_settings]; exact State.foldl_frame (fun s : State => s.settings) (fun s x => by simp) _ _

@[simp] theorem State.stepB_control (s : State) : (s.stepB).control = s.control :=
  by unfold State.stepB; simp only [State.setSense_control]; exact State.foldl_frame (fun s : State => s.control) (fun s x => by simp) _ _

@[simp] theorem State.stepB_signals (s : State) : (s.stepB).signals = s.signals :=
  by unfold State.stepB; simp only [State.setSense_signals]; exact State.foldl_frame (fun s : State => s.signals) (fun s x => by simp) _ _

@[simp] theorem State.stepB_freeIndex (s : State) : (s.stepB).freeIndex = s.freeIndex :=
  by unfold State.stepB; simp only [State.setSense_freeIndex]; exact State.foldl_frame (fun s : State => s.freeIndex) (fun s x => by simp) _ _

@[simp] theorem State.stepB_pending (s : State) : (s.stepB).pending = s.pending :=
  by unfold State.stepB; simp only [State.setSense_pending]; exact State.foldl_frame (fun s : State => s.pending) (fun s x => by simp) _ _

@[simp] theorem State.qualifyingEdge_link (s : State) (n : Fin 8) (b : Bool) : (s.qualifyingEdge n b).link = s.link :=
  by unfold State.qualifyingEdge; dsimp only; repeat' split
     all_goals rfl

@[simp] theorem State.qualifyingEdge_time (s : State) (n : Fin 8) (b : Bool) : (s.qualifyingEdge n b).time = s.time :=
  by unfold State.qualifyingEdge; dsimp only; repeat' split
     all_goals rfl

@[simp] theorem State.qualifyingEdge_sched (s : State) (n : Fin 8) (b : Bool) : (s.qualifyingEdge n b).sched = s.sched :=
  by unfold State.qualifyingEdge; dsimp only; repeat' split
     all_goals rfl

@[simp] theorem State.qualifyingEdge_counters (s : State) (n : Fin 8) (b : Bool) : (s.qualifyingEdge n b).counters = s.counters :=
  by unfold State.qualifyingEdge; dsimp only; repeat' split
     all_goals rfl

@[simp] theorem State.qualifyingEdge_outputs (s : State) (n : Fin 8) (b : Bool) : (s.qualifyingEdge n b).outputs = s.outputs :=
  by unfold State.qualifyingEdge; dsimp only; repeat' split
     all_goals rfl

@[simp] theorem State.qualifyingEdge_wd (s : State) (n : Fin 8) (b : Bool) : (s.qualifyingEdge n b).wd = s.wd :=
  by unfold State.qualifyingEdge; dsimp only; repeat' split
     all_goals rfl

@[simp] theorem State.qualifyingEdge_settings (s : State) (n : Fin 8) (b : Bool) : (s.qualifyingEdge n b).settings = s.settings :=
  by unfold State.qualifyingEdge; dsimp only; repeat' split
     all_goals rfl

@[simp] theorem State.qualifyingEdge_control (s : State) (n : Fin 8) (b : Bool) : (s.qualifyingEdge n b).control = s.control :=
  by unfold State.qualifyingEdge; dsimp only; repeat' split
     all_goals rfl

@[simp] theorem State.qualifyingEdge_freeIndex (s : State) (n : Fin 8) (b : Bool) : (s.qualifyingEdge n b).freeIndex = s.freeIndex :=
  by unfold State.qualifyingEdge; dsimp only; repeat' split
     all_goals rfl

@[simp] theorem State.qualifyingEdge_pending (s : State) (n : Fin 8) (b : Bool) : (s.qualifyingEdge n b).pending = s.pending :=
  by unfold State.qualifyingEdge; dsimp only; repeat' split
     all_goals rfl

@[simp] theorem State.confirmedChange_link (s : State) (n : Fin 8) (b : Bool) : (s.confirmedChange n b).link = s.link :=
  by unfold State.confirmedChange; dsimp only; repeat' split
     all_goals first | rfl | simp

@[simp] theorem State.confirmedChange_time (s : State) (n : Fin 8) (b : Bool) : (s.confirmedChange n b).time = s.time :=
  by unfold State.confirmedChange; dsimp only; repeat' split
     all_goals first | rfl | simp

@[simp] theorem State.confirmedChange_sched (s : State) (n : Fin 8) (b : Bool) : (s.confirmedChange n b).sched = s.sched :=
  by unfold State.confirmedChange; dsimp only; repeat' split
     all_goals first | rfl | simp

@[simp] theorem State.confirmedChange_counters (s : State) (n : Fin 8) (b : Bool) : (s.confirmedChange n b).counters = s.counters :=
  by unfold State.confirmedChange; dsimp only; repeat' split
     all_goals first | rfl | simp

@[simp] theorem State.confirmedChange_outputs (s : State) (n : Fin 8) (b : Bool) : (s.confirmedChange n b).outputs = s.outputs :=
  by unfold State.confirmedChange; dsimp only; repeat' split
     all_goals first | rfl | simp

@[simp] theorem State.confirmedChange_wd (s : State) (n : Fin 8) (b : Bool) : (s.confirmedChange n b).wd = s.wd :=
  by unfold State.confirmedChange; dsimp only; repeat' split
     all_goals first | rfl | simp

@[simp] theorem State.confirmedChange_settings (s : State) (n : Fin 8) (b : Bool) : (s.confirmedChange n b).settings = s.settings :=
  by unfold State.confirmedChange; dsimp only; repeat' split
     all_goals first | rfl | simp

@[simp] theorem State.confirmedChange_control (s : State) (n : Fin 8) (b : Bool) : (s.confirmedChange n b).control = s.control :=
  by unfold State.confirmedChange; dsimp only; repeat' split
     all_goals first | rfl | simp

@[simp] theorem State.confirmedChange_freeIndex (s : State) (n : Fin 8) (b : Bool) : (s.confirmedChange n b).freeIndex = s.freeIndex :=
  by unfold State.confirmedChange; dsimp only; repeat' split
     all_goals first | rfl | simp

@[simp] theorem State.confirmedChange_pending (s : State) (n : Fin 8) (b : Bool) : (s.confirmedChange n b).pending = s.pending :=
  by unfold State.confirmedChange; dsimp only; repeat' split
     all_goals first | rfl | simp

@[simp] theorem State.confirmIfDue_link (s : State) (n : Fin 8) : (s.confirmIfDue n).link = s.link :=
  by unfold State.confirmIfDue; repeat' split
     all_goals first | rfl | simp

@[simp] theorem State.confirmIfDue_time (s : State) (n : Fin 8) : (s.confirmIfDue n).time = s.time :=
  by unfold State.confirmIfDue; repeat' split
     all_goals first | rfl | simp

@[simp] theorem State.confirmIfDue_sched (s : State) (n : Fin 8) : (s.confirmIfDue n).sched = s.sched :=
  by unfold State.confirmIfDue; repeat' split
     all_goals first | rfl | simp

@[simp] theorem State.confirmIfDue_counters (s : State) (n : Fin 8) : (s.confirmIfDue n).counters = s.counters :=
  by unfold State.confirmIfDue; repeat' split
     all_goals first | rfl | simp

@[simp] theorem State.confirmIfDue_outputs (s : State) (n : Fin 8) : (s.confirmIfDue n).outputs = s.outputs :=
  by unfold State.confirmIfDue; repeat' split
     all_goals first | rfl | simp

@[simp] theorem State.confirmIfDue_wd (s : State) (n : Fin 8) : (s.confirmIfDue n).wd = s.wd :=
  by unfold State.confirmIfDue; repeat' split
     all_goals first | rfl | simp

@[simp] theorem State.confirmIfDue_settings (s : State) (n : Fin 8) : (s.confirmIfDue n).settings = s.settings :=
  by unfold State.confirmIfDue; repeat' split
     all_goals first | rfl | simp

@[simp] theorem State.confirmIfDue_control (s : State) (n : Fin 8) : (s.confirmIfDue n).control = s.control :=
  by unfold State.confirmIfDue; repeat' split
     all_goals first | rfl | simp

@[simp] theorem State.confirmIfDue_freeIndex (s : State) (n : Fin 8) : (s.confirmIfDue n).freeIndex = s.freeIndex :=
  by unfold State.confirmIfDue; repeat' split
     all_goals first | rfl | simp

@[simp] theorem State.confirmIfDue_pending (s : State) (n : Fin 8) : (s.confirmIfDue n).pending = s.pending :=
  by unfold State.confirmIfDue; repeat' split
     all_goals first | rfl | simp

@[simp] theorem State.senseLine_link (s : State) (p : BitVec 8) (n : Fin 8) : (State.senseLine p s n).link = s.link :=
  by unfold State.senseLine; dsimp only; repeat' split
     all_goals first | rfl | simp

@[simp] theorem State.senseLine_time (s : State) (p : BitVec 8) (n : Fin 8) : (State.senseLine p s n).time = s.time :=
  by unfold State.senseLine; dsimp only; repeat' split
     all_goals first | rfl | simp

@[simp] theorem State.senseLine_sched (s : State) (p : BitVec 8) (n : Fin 8) : (State.senseLine p s n).sched = s.sched :=
  by unfold State.senseLine; dsimp only; repeat' split
     all_goals first | rfl | simp

@[simp] theorem State.senseLine_counters (s : State) (p : BitVec 8) (n : Fin 8) : (State.senseLine p s n).counters = s.counters :=
  by unfold State.senseLine; dsimp only; repeat' split
     all_goals first | rfl | simp

@[simp] theorem State.senseLine_outputs (s : State) (p : BitVec 8) (n : Fin 8) : (State.senseLine p s n).outputs = s.outputs :=
  by unfold State.senseLine; dsimp only; repeat' split
     all_goals first | rfl | simp

@[simp] theorem State.senseLine_wd (s : State) (p : BitVec 8) (n : Fin 8) : (State.senseLine p s n).wd = s.wd :=
  by unfold State.senseLine; dsimp only; repeat' split
     all_goals first | rfl | simp

@[simp] theorem State.senseLine_settings (s : State) (p : BitVec 8) (n : Fin 8) : (State.senseLine p s n).settings = s.settings :=
  by unfold State.senseLine; dsimp only; repeat' split
     all_goals first | rfl | simp

@[simp] theorem State.senseLine_control (s : State) (p : BitVec 8) (n : Fin 8) : (State.senseLine p s n).control = s.control :=
  by unfold State.senseLine; dsimp only; repeat' split
     all_goals first | rfl | simp

@[simp] theorem State.senseLine_freeIndex (s : State) (p : BitVec 8) (n : Fin 8) : (State.senseLine p s n).freeIndex = s.freeIndex :=
  by unfold State.senseLine; dsimp only; repeat' split
     all_goals first | rfl | simp

@[simp] theorem State.senseLine_pending (s : State) (p : BitVec 8) (n : Fin 8) : (State.senseLine p s n).pending = s.pending :=
  by unfold State.senseLine; dsimp only; repeat' split
     all_goals first | rfl | simp

@[simp] theorem State.stepC_link (s : State) (p : BitVec 8) : (s.stepC p).link = s.link :=
  by unfold State.stepC; simp only [State.setSense_link]; exact State.foldl_frame (fun s : State => s.link) (fun s x => by simp) _ _

@[simp] theorem State.stepC_time (s : State) (p : BitVec 8) : (s.stepC p).time = s.time :=
  by unfold State.stepC; simp only [State.setSense_time]; exact State.foldl_frame (fun s : State => s.time) (fun s x => by simp) _ _

@[simp] theorem State.stepC_sched (s : State) (p : BitVec 8) : (s.stepC p).sched = s.sched :=
  by unfold State.stepC; simp only [State.setSense_sched]; exact State.foldl_frame (fun s : State => s.sched) (fun s x => by simp) _ _

@[simp] theorem State.stepC_counters (s : State) (p : BitVec 8) : (s.stepC p).counters = s.counters :=
  by unfold State.stepC; simp only [State.setSense_counters]; exact State.foldl_frame (fun s : State => s.counters) (fun s x => by simp) _ _

@[simp] theorem State.stepC_outputs (s : State) (p : BitVec 8) : (s.stepC p).outputs = s.outputs :=
  by unfold State.stepC; simp only [State.setSense_outputs]; exact State.foldl_frame (fun s : State => s.outputs) (fun s x => by simp) _ _

@[simp] theorem State.stepC_wd (s : State) (p : BitVec 8) : (s.stepC p).wd = s.wd :=
  by unfold State.stepC; simp only [State.setSense_wd]; exact State.foldl_frame (fun s : State => s.wd) (fun s x => by simp) _ _

@[simp] theorem State.stepC_settings (s : State) (p : BitVec 8) : (s.stepC p).settings = s.settings :=
  by unfold State.stepC; simp only [State.setSense_settings]; exact State.foldl_frame (fun s : State => s.settings) (fun s x => by simp) _ _

@[simp] theorem State.stepC_control (s : State) (p : BitVec 8) : (s.stepC p).control = s.control :=
  by unfold State.stepC; simp only [State.setSense_control]; exact State.foldl_frame (fun s : State => s.control) (fun s x => by simp) _ _

@[simp] theorem State.stepC_freeIndex (s : State) (p : BitVec 8) : (s.stepC p).freeIndex = s.freeIndex :=
  by unfold State.stepC; simp only [State.setSense_freeIndex]; exact State.foldl_frame (fun s : State => s.freeIndex) (fun s x => by simp) _ _

@[simp] theorem State.stepC_pending (s : State) (p : BitVec 8) : (s.stepC p).pending = s.pending :=
  by unfold State.stepC; simp only [State.setSense_pending]; exact State.foldl_frame (fun s : State => s.pending) (fun s x => by simp) _ _

@[simp] theorem State.counterEffect_link (s : State) (n : Fin 2) : (s.counterEffect n).link = s.link :=
  by unfold State.counterEffect; repeat' split
     all_goals rfl

@[simp] theorem State.counterEffect_time (s : State) (n : Fin 2) : (s.counterEffect n).time = s.time :=
  by unfold State.counterEffect; repeat' split
     all_goals rfl

@[simp] theorem State.counterEffect_sched (s : State) (n : Fin 2) : (s.counterEffect n).sched = s.sched :=
  by unfold State.counterEffect; repeat' split
     all_goals rfl

@[simp] theorem State.counterEffect_journal (s : State) (n : Fin 2) : (s.counterEffect n).journal = s.journal :=
  by unfold State.counterEffect; repeat' split
     all_goals rfl

@[simp] theorem State.counterEffect_sense (s : State) (n : Fin 2) : (s.counterEffect n).sense = s.sense :=
  by unfold State.counterEffect; repeat' split
     all_goals rfl

@[simp] theorem State.counterEffect_counters (s : State) (n : Fin 2) : (s.counterEffect n).counters = s.counters :=
  by unfold State.counterEffect; repeat' split
     all_goals rfl

@[simp] theorem State.counterEffect_wd (s : State) (n : Fin 2) : (s.counterEffect n).wd = s.wd :=
  by unfold State.counterEffect; repeat' split
     all_goals rfl

@[simp] theorem State.counterEffect_notify (s : State) (n : Fin 2) : (s.counterEffect n).notify = s.notify :=
  by unfold State.counterEffect; repeat' split
     all_goals rfl

@[simp] theorem State.counterEffect_settings (s : State) (n : Fin 2) : (s.counterEffect n).settings = s.settings :=
  by unfold State.counterEffect; repeat' split
     all_goals rfl

@[simp] theorem State.counterEffect_control (s : State) (n : Fin 2) : (s.counterEffect n).control = s.control :=
  by unfold State.counterEffect; repeat' split
     all_goals rfl

@[simp] theorem State.counterEffect_signals (s : State) (n : Fin 2) : (s.counterEffect n).signals = s.signals :=
  by unfold State.counterEffect; repeat' split
     all_goals rfl

@[simp] theorem State.counterEffect_freeIndex (s : State) (n : Fin 2) : (s.counterEffect n).freeIndex = s.freeIndex :=
  by unfold State.counterEffect; repeat' split
     all_goals rfl

@[simp] theorem State.counterEffect_pending (s : State) (n : Fin 2) : (s.counterEffect n).pending = s.pending :=
  by unfold State.counterEffect; repeat' split
     all_goals rfl

@[simp] theorem State.expire_link (s : State) (n : Fin 2) : (s.expire n).link = s.link :=
  by unfold State.expire; dsimp only; repeat' split
     all_goals first | rfl | simp

@[simp] theorem State.expire_time (s : State) (n : Fin 2) : (s.expire n).time = s.time :=
  by unfold State.expire; dsimp only; repeat' split
     all_goals first | rfl | simp

@[simp] theorem State.expire_sched (s : State) (n : Fin 2) : (s.expire n).sched = s.sched :=
  by unfold State.expire; dsimp only; repeat' split
     all_goals first | rfl | simp

@[simp] theorem State.expire_sense (s : State) (n : Fin 2) : (s.expire n).sense = s.sense :=
  by unfold State.expire; dsimp only; repeat' split
     all_goals first | rfl | simp

@[simp] theorem State.expire_wd (s : State) (n : Fin 2) : (s.expire n).wd = s.wd :=
  by unfold State.expire; dsimp only; repeat' split
     all_goals first | rfl | simp

@[simp] theorem State.expire_settings (s : State) (n : Fin 2) : (s.expire n).settings = s.settings :=
  by unfold State.expire; dsimp only; repeat' split
     all_goals first | rfl | simp

@[simp] theorem State.expire_control (s : State) (n : Fin 2) : (s.expire n).control = s.control :=
  by unfold State.expire; dsimp only; repeat' split
     all_goals first | rfl | simp

@[simp] theorem State.expire_freeIndex (s : State) (n : Fin 2) : (s.expire n).freeIndex = s.freeIndex :=
  by unfold State.expire; dsimp only; repeat' split
     all_goals first | rfl | simp

@[simp] theorem State.expire_pending (s : State) (n : Fin 2) : (s.expire n).pending = s.pending :=
  by unfold State.expire; dsimp only; repeat' split
     all_goals first | rfl | simp

@[simp] theorem State.stepCounter_link (s : State) (n : Fin 2) : (s.stepCounter n).link = s.link :=
  by unfold State.stepCounter; dsimp only; repeat' split
     all_goals first | rfl | simp

@[simp] theorem State.stepCounter_time (s : State) (n : Fin 2) : (s.stepCounter n).time = s.time :=
  by unfold State.stepCounter; dsimp only; repeat' split
     all_goals first | rfl | simp

@[simp] theorem State.stepCounter_sched (s : State) (n : Fin 2) : (s.stepCounter n).sched = s.sched :=
  by unfold State.stepCounter; dsimp only; repeat' split
     all_goals first | rfl | simp

@[simp] theorem State.stepCounter_sense (s : State) (n : Fin 2) : (s.stepCounter n).sense = s.sense :=
  by unfold State.stepCounter; dsimp only; repeat' split
     all_goals first | rfl | simp

@[simp] theorem State.stepCounter_wd (s : State) (n : Fin 2) : (s.stepCounter n).wd = s.wd :=
  by unfold State.stepCounter; dsimp only; repeat' split
     all_goals first | rfl | simp

@[simp] theorem State.stepCounter_settings (s : State) (n : Fin 2) : (s.stepCounter n).settings = s.settings :=
  by unfold State.stepCounter; dsimp only; repeat' split
     all_goals first | rfl | simp

@[simp] theorem State.stepCounter_control (s : State) (n : Fin 2) : (s.stepCounter n).control = s.control :=
  by unfold State.stepCounter; dsimp only; repeat' split
     all_goals first | rfl | simp

@[simp] theorem State.stepCounter_freeIndex (s : State) (n : Fin 2) : (s.stepCounter n).freeIndex = s.freeIndex :=
  by unfold State.stepCounter; dsimp only; repeat' split
     all_goals first | rfl | simp

@[simp] theorem State.stepCounter_pending (s : State) (n : Fin 2) : (s.stepCounter n).pending = s.pending :=
  by unfold State.stepCounter; dsimp only; repeat' split
     all_goals first | rfl | simp

@[simp] theorem State.dealCounter_link (s : State) (n : Fin 2) : (s.dealCounter n).link = s.link :=
  by unfold State.dealCounter; split <;> simp

@[simp] theorem State.dealCounter_time (s : State) (n : Fin 2) : (s.dealCounter n).time = s.time :=
  by unfold State.dealCounter; split <;> simp

@[simp] theorem State.dealCounter_sched (s : State) (n : Fin 2) : (s.dealCounter n).sched = s.sched :=
  by unfold State.dealCounter; split <;> simp

@[simp] theorem State.dealCounter_sense (s : State) (n : Fin 2) : (s.dealCounter n).sense = s.sense :=
  by unfold State.dealCounter; split <;> simp

@[simp] theorem State.dealCounter_wd (s : State) (n : Fin 2) : (s.dealCounter n).wd = s.wd :=
  by unfold State.dealCounter; split <;> simp

@[simp] theorem State.dealCounter_settings (s : State) (n : Fin 2) : (s.dealCounter n).settings = s.settings :=
  by unfold State.dealCounter; split <;> simp

@[simp] theorem State.dealCounter_control (s : State) (n : Fin 2) : (s.dealCounter n).control = s.control :=
  by unfold State.dealCounter; split <;> simp

@[simp] theorem State.dealCounter_freeIndex (s : State) (n : Fin 2) : (s.dealCounter n).freeIndex = s.freeIndex :=
  by unfold State.dealCounter; split <;> simp

@[simp] theorem State.dealCounter_pending (s : State) (n : Fin 2) : (s.dealCounter n).pending = s.pending :=
  by unfold State.dealCounter; split <;> simp

@[simp] theorem State.stepD_link (s : State) : (s.stepD).link = s.link :=
  by unfold State.stepD; split <;> simp

@[simp] theorem State.stepD_time (s : State) : (s.stepD).time = s.time :=
  by unfold State.stepD; split <;> simp

@[simp] theorem State.stepD_sched (s : State) : (s.stepD).sched = s.sched :=
  by unfold State.stepD; split <;> simp

@[simp] theorem State.stepD_sense (s : State) : (s.stepD).sense = s.sense :=
  by unfold State.stepD; split <;> simp

@[simp] theorem State.stepD_wd (s : State) : (s.stepD).wd = s.wd :=
  by unfold State.stepD; split <;> simp

@[simp] theorem State.stepD_settings (s : State) : (s.stepD).settings = s.settings :=
  by unfold State.stepD; split <;> simp

@[simp] theorem State.stepD_control (s : State) : (s.stepD).control = s.control :=
  by unfold State.stepD; split <;> simp

@[simp] theorem State.stepD_freeIndex (s : State) : (s.stepD).freeIndex = s.freeIndex :=
  by unfold State.stepD; split <;> simp

@[simp] theorem State.stepD_pending (s : State) : (s.stepD).pending = s.pending :=
  by unfold State.stepD; split <;> simp

@[simp] theorem State.pulseLine_link (s : State) (n : Fin 6) : (s.pulseLine n).link = s.link :=
  rfl

@[simp] theorem State.pulseLine_time (s : State) (n : Fin 6) : (s.pulseLine n).time = s.time :=
  rfl

@[simp] theorem State.pulseLine_sched (s : State) (n : Fin 6) : (s.pulseLine n).sched = s.sched :=
  rfl

@[simp] theorem State.pulseLine_journal (s : State) (n : Fin 6) : (s.pulseLine n).journal = s.journal :=
  rfl

@[simp] theorem State.pulseLine_sense (s : State) (n : Fin 6) : (s.pulseLine n).sense = s.sense :=
  rfl

@[simp] theorem State.pulseLine_counters (s : State) (n : Fin 6) : (s.pulseLine n).counters = s.counters :=
  rfl

@[simp] theorem State.pulseLine_wd (s : State) (n : Fin 6) : (s.pulseLine n).wd = s.wd :=
  rfl

@[simp] theorem State.pulseLine_notify (s : State) (n : Fin 6) : (s.pulseLine n).notify = s.notify :=
  rfl

@[simp] theorem State.pulseLine_settings (s : State) (n : Fin 6) : (s.pulseLine n).settings = s.settings :=
  rfl

@[simp] theorem State.pulseLine_control (s : State) (n : Fin 6) : (s.pulseLine n).control = s.control :=
  rfl

@[simp] theorem State.pulseLine_signals (s : State) (n : Fin 6) : (s.pulseLine n).signals = s.signals :=
  rfl

@[simp] theorem State.pulseLine_freeIndex (s : State) (n : Fin 6) : (s.pulseLine n).freeIndex = s.freeIndex :=
  rfl

@[simp] theorem State.pulseLine_pending (s : State) (n : Fin 6) : (s.pulseLine n).pending = s.pending :=
  rfl

@[simp] theorem State.stepE_link (s : State) : (s.stepE).link = s.link :=
  by unfold State.stepE; exact State.foldl_frame (fun s : State => s.link) (fun s x => by simp) _ _

@[simp] theorem State.stepE_time (s : State) : (s.stepE).time = s.time :=
  by unfold State.stepE; exact State.foldl_frame (fun s : State => s.time) (fun s x => by simp) _ _

@[simp] theorem State.stepE_sched (s : State) : (s.stepE).sched = s.sched :=
  by unfold State.stepE; exact State.foldl_frame (fun s : State => s.sched) (fun s x => by simp) _ _

@[simp] theorem State.stepE_journal (s : State) : (s.stepE).journal = s.journal :=
  by unfold State.stepE; exact State.foldl_frame (fun s : State => s.journal) (fun s x => by simp) _ _

@[simp] theorem State.stepE_sense (s : State) : (s.stepE).sense = s.sense :=
  by unfold State.stepE; exact State.foldl_frame (fun s : State => s.sense) (fun s x => by simp) _ _

@[simp] theorem State.stepE_counters (s : State) : (s.stepE).counters = s.counters :=
  by unfold State.stepE; exact State.foldl_frame (fun s : State => s.counters) (fun s x => by simp) _ _

@[simp] theorem State.stepE_wd (s : State) : (s.stepE).wd = s.wd :=
  by unfold State.stepE; exact State.foldl_frame (fun s : State => s.wd) (fun s x => by simp) _ _

@[simp] theorem State.stepE_notify (s : State) : (s.stepE).notify = s.notify :=
  by unfold State.stepE; exact State.foldl_frame (fun s : State => s.notify) (fun s x => by simp) _ _

@[simp] theorem State.stepE_settings (s : State) : (s.stepE).settings = s.settings :=
  by unfold State.stepE; exact State.foldl_frame (fun s : State => s.settings) (fun s x => by simp) _ _

@[simp] theorem State.stepE_control (s : State) : (s.stepE).control = s.control :=
  by unfold State.stepE; exact State.foldl_frame (fun s : State => s.control) (fun s x => by simp) _ _

@[simp] theorem State.stepE_signals (s : State) : (s.stepE).signals = s.signals :=
  by unfold State.stepE; exact State.foldl_frame (fun s : State => s.signals) (fun s x => by simp) _ _

@[simp] theorem State.stepE_freeIndex (s : State) : (s.stepE).freeIndex = s.freeIndex :=
  by unfold State.stepE; exact State.foldl_frame (fun s : State => s.freeIndex) (fun s x => by simp) _ _

@[simp] theorem State.stepE_pending (s : State) : (s.stepE).pending = s.pending :=
  by unfold State.stepE; exact State.foldl_frame (fun s : State => s.pending) (fun s x => by simp) _ _

@[simp] theorem State.wdStart_link (s : State) : (s.wdStart).link = s.link :=
  rfl

@[simp] theorem State.wdStart_time (s : State) : (s.wdStart).time = s.time :=
  rfl

@[simp] theorem State.wdStart_sched (s : State) : (s.wdStart).sched = s.sched :=
  rfl

@[simp] theorem State.wdStart_sense (s : State) : (s.wdStart).sense = s.sense :=
  rfl

@[simp] theorem State.wdStart_counters (s : State) : (s.wdStart).counters = s.counters :=
  rfl

@[simp] theorem State.wdStart_outputs (s : State) : (s.wdStart).outputs = s.outputs :=
  rfl

@[simp] theorem State.wdStart_settings (s : State) : (s.wdStart).settings = s.settings :=
  rfl

@[simp] theorem State.wdStart_control (s : State) : (s.wdStart).control = s.control :=
  rfl

@[simp] theorem State.wdStart_signals (s : State) : (s.wdStart).signals = s.signals :=
  rfl

@[simp] theorem State.wdStart_freeIndex (s : State) : (s.wdStart).freeIndex = s.freeIndex :=
  rfl

@[simp] theorem State.wdStart_pending (s : State) : (s.wdStart).pending = s.pending :=
  rfl

@[simp] theorem State.wdStop_link (s : State) : (s.wdStop).link = s.link :=
  rfl

@[simp] theorem State.wdStop_time (s : State) : (s.wdStop).time = s.time :=
  rfl

@[simp] theorem State.wdStop_sched (s : State) : (s.wdStop).sched = s.sched :=
  rfl

@[simp] theorem State.wdStop_sense (s : State) : (s.wdStop).sense = s.sense :=
  rfl

@[simp] theorem State.wdStop_counters (s : State) : (s.wdStop).counters = s.counters :=
  rfl

@[simp] theorem State.wdStop_outputs (s : State) : (s.wdStop).outputs = s.outputs :=
  rfl

@[simp] theorem State.wdStop_settings (s : State) : (s.wdStop).settings = s.settings :=
  rfl

@[simp] theorem State.wdStop_control (s : State) : (s.wdStop).control = s.control :=
  rfl

@[simp] theorem State.wdStop_signals (s : State) : (s.wdStop).signals = s.signals :=
  rfl

@[simp] theorem State.wdStop_freeIndex (s : State) : (s.wdStop).freeIndex = s.freeIndex :=
  rfl

@[simp] theorem State.wdStop_pending (s : State) : (s.wdStop).pending = s.pending :=
  rfl

@[simp] theorem State.timed_time (s : State) (t : WdTimed) : (s.timed t).time = s.time :=
  by unfold State.timed; split <;> simp

@[simp] theorem State.timed_sched (s : State) (t : WdTimed) : (s.timed t).sched = s.sched :=
  by unfold State.timed; split <;> simp

@[simp] theorem State.timed_sense (s : State) (t : WdTimed) : (s.timed t).sense = s.sense :=
  by unfold State.timed; split <;> simp

@[simp] theorem State.timed_counters (s : State) (t : WdTimed) : (s.timed t).counters = s.counters :=
  by unfold State.timed; split <;> simp

@[simp] theorem State.timed_settings (s : State) (t : WdTimed) : (s.timed t).settings = s.settings :=
  by unfold State.timed; split <;> simp

@[simp] theorem State.timed_control (s : State) (t : WdTimed) : (s.timed t).control = s.control :=
  by unfold State.timed; split <;> simp

@[simp] theorem State.timed_signals (s : State) (t : WdTimed) : (s.timed t).signals = s.signals :=
  by unfold State.timed; split <;> simp

@[simp] theorem State.timed_freeIndex (s : State) (t : WdTimed) : (s.timed t).freeIndex = s.freeIndex :=
  by unfold State.timed; split <;> simp

@[simp] theorem State.timed_pending (s : State) (t : WdTimed) : (s.timed t).pending = s.pending :=
  by unfold State.timed; split <;> simp

@[simp] theorem State.beat_time (s : State) : (s.beat).time = s.time :=
  by unfold State.beat; dsimp only; repeat' split
     all_goals first | rfl | simp

@[simp] theorem State.beat_sched (s : State) : (s.beat).sched = s.sched :=
  by unfold State.beat; dsimp only; repeat' split
     all_goals first | rfl | simp

@[simp] theorem State.beat_sense (s : State) : (s.beat).sense = s.sense :=
  by unfold State.beat; dsimp only; repeat' split
     all_goals first | rfl | simp

@[simp] theorem State.beat_counters (s : State) : (s.beat).counters = s.counters :=
  by unfold State.beat; dsimp only; repeat' split
     all_goals first | rfl | simp

@[simp] theorem State.beat_settings (s : State) : (s.beat).settings = s.settings :=
  by unfold State.beat; dsimp only; repeat' split
     all_goals first | rfl | simp

@[simp] theorem State.beat_control (s : State) : (s.beat).control = s.control :=
  by unfold State.beat; dsimp only; repeat' split
     all_goals first | rfl | simp

@[simp] theorem State.beat_signals (s : State) : (s.beat).signals = s.signals :=
  by unfold State.beat; dsimp only; repeat' split
     all_goals first | rfl | simp

@[simp] theorem State.beat_freeIndex (s : State) : (s.beat).freeIndex = s.freeIndex :=
  by unfold State.beat; dsimp only; repeat' split
     all_goals first | rfl | simp

@[simp] theorem State.beat_pending (s : State) : (s.beat).pending = s.pending :=
  by unfold State.beat; dsimp only; repeat' split
     all_goals first | rfl | simp

@[simp] theorem State.stepG_time (s : State) : (s.stepG).time = s.time :=
  by unfold State.stepG; split <;> simp

@[simp] theorem State.stepG_sched (s : State) : (s.stepG).sched = s.sched :=
  by unfold State.stepG; split <;> simp

@[simp] theorem State.stepG_sense (s : State) : (s.stepG).sense = s.sense :=
  by unfold State.stepG; split <;> simp

@[simp] theorem State.stepG_counters (s : State) : (s.stepG).counters = s.counters :=
  by unfold State.stepG; split <;> simp

@[simp] theorem State.stepG_settings (s : State) : (s.stepG).settings = s.settings :=
  by unfold State.stepG; split <;> simp

@[simp] theorem State.stepG_control (s : State) : (s.stepG).control = s.control :=
  by unfold State.stepG; split <;> simp

@[simp] theorem State.stepG_signals (s : State) : (s.stepG).signals = s.signals :=
  by unfold State.stepG; split <;> simp

@[simp] theorem State.stepG_freeIndex (s : State) : (s.stepG).freeIndex = s.freeIndex :=
  by unfold State.stepG; split <;> simp

@[simp] theorem State.stepG_pending (s : State) : (s.stepG).pending = s.pending :=
  by unfold State.stepG; split <;> simp

@[simp] theorem State.stepBIfDue_link (s : State) : (s.stepBIfDue).link = s.link :=
  by unfold State.stepBIfDue; split <;> simp

@[simp] theorem State.stepBIfDue_time (s : State) : (s.stepBIfDue).time = s.time :=
  by unfold State.stepBIfDue; split <;> simp

@[simp] theorem State.stepBIfDue_sched (s : State) : (s.stepBIfDue).sched = s.sched :=
  by unfold State.stepBIfDue; split <;> simp

@[simp] theorem State.stepBIfDue_counters (s : State) : (s.stepBIfDue).counters = s.counters :=
  by unfold State.stepBIfDue; split <;> simp

@[simp] theorem State.stepBIfDue_outputs (s : State) : (s.stepBIfDue).outputs = s.outputs :=
  by unfold State.stepBIfDue; split <;> simp

@[simp] theorem State.stepBIfDue_wd (s : State) : (s.stepBIfDue).wd = s.wd :=
  by unfold State.stepBIfDue; split <;> simp

@[simp] theorem State.stepBIfDue_settings (s : State) : (s.stepBIfDue).settings = s.settings :=
  by unfold State.stepBIfDue; split <;> simp

@[simp] theorem State.stepBIfDue_control (s : State) : (s.stepBIfDue).control = s.control :=
  by unfold State.stepBIfDue; split <;> simp

@[simp] theorem State.stepBIfDue_signals (s : State) : (s.stepBIfDue).signals = s.signals :=
  by unfold State.stepBIfDue; split <;> simp

@[simp] theorem State.stepBIfDue_freeIndex (s : State) : (s.stepBIfDue).freeIndex = s.freeIndex :=
  by unfold State.stepBIfDue; split <;> simp

@[simp] theorem State.stepBIfDue_pending (s : State) : (s.stepBIfDue).pending = s.pending :=
  by unfold State.stepBIfDue; split <;> simp

@[simp] theorem State.boundary_settings (s : State) (p : BitVec 8) : (s.boundary p).settings = s.settings :=
  by simp [State.boundary]

@[simp] theorem State.boundary_control (s : State) (p : BitVec 8) : (s.boundary p).control = s.control :=
  by simp [State.boundary]

@[simp] theorem State.boundary_freeIndex (s : State) (p : BitVec 8) : (s.boundary p).freeIndex = s.freeIndex :=
  by simp [State.boundary]

@[simp] theorem State.boundary_pending (s : State) (p : BitVec 8) : (s.boundary p).pending = s.pending :=
  by simp [State.boundary]

@[simp] theorem State.returnEvent_link (s : State) : (s.returnEvent).link = s.link := by
  unfold State.returnEvent; dsimp only; repeat' split
  all_goals simp

@[simp] theorem State.returnEvent_time (s : State) : (s.returnEvent).time = s.time := by
  unfold State.returnEvent; dsimp only; repeat' split
  all_goals simp

@[simp] theorem State.returnEvent_sched (s : State) : (s.returnEvent).sched = s.sched := by
  unfold State.returnEvent; dsimp only; repeat' split
  all_goals simp

@[simp] theorem State.returnEvent_counters (s : State) : (s.returnEvent).counters = s.counters := by
  unfold State.returnEvent; dsimp only; repeat' split
  all_goals simp

@[simp] theorem State.returnEvent_settings (s : State) : (s.returnEvent).settings = s.settings := by
  unfold State.returnEvent; dsimp only; repeat' split
  all_goals simp

@[simp] theorem State.returnEvent_signals (s : State) : (s.returnEvent).signals = s.signals := by
  unfold State.returnEvent; dsimp only; repeat' split
  all_goals simp

@[simp] theorem State.returnEvent_freeIndex (s : State) : (s.returnEvent).freeIndex = s.freeIndex := by
  unfold State.returnEvent; dsimp only; repeat' split
  all_goals simp

@[simp] theorem State.returnEvent_pending (s : State) : (s.returnEvent).pending = s.pending := by
  unfold State.returnEvent; dsimp only; repeat' split
  all_goals simp

@[simp] theorem State.returnFromBackup_sched (s : State) : (s.returnFromBackup).sched = s.sched := by
  unfold State.returnFromBackup; dsimp only; split <;> simp

@[simp] theorem State.returnFromBackup_signals (s : State) : (s.returnFromBackup).signals = s.signals := by
  unfold State.returnFromBackup; dsimp only; split <;> simp

@[simp] theorem State.returnFromBackup_freeIndex (s : State) : (s.returnFromBackup).freeIndex = s.freeIndex := by
  unfold State.returnFromBackup; dsimp only; split <;> simp

@[simp] theorem State.returnFromBackup_pending (s : State) : (s.returnFromBackup).pending = s.pending := by
  unfold State.returnFromBackup; dsimp only; split <;> simp

end Sys2Proof.Machine
end

