-- ==== Sys2Proof/Laws/Ops.lean ====
section
/-! SUPPORT. What the shared operations do, each said once: the executor's performing of a request, the checks, the flush, the
forcing, the recomputation, and the small laws of the fields that the operations write. -/

namespace Sys2Proof.Machine

/-! ## The executor -/

/-- Performing the head request, when the executor may take it and the command is for it: the request leaves its queue and its
body's reply is finished under its tag. -/
theorem State.perform_ready {s : State} {q : Request} {rest : List Request} (h : s.Ready q rest) (accepts : Request → Bool)
    (ha : accepts q = true) (body : List Byte → State → Reply) :
    s.perform accepts body = (body q.payload (s.took rest)).finish q.tag := by
  obtain ⟨h1, h2, h3⟩ := h
  simp [State.perform, h3, State.mayPerform, h1, h2, Config.queueCapacity, ha, State.took, State.setLink]

/-- A request that the executor may not take waits. -/
theorem State.perform_wait {s : State} (h : s.control.op ≠ .active ∨ 4 ≤ s.link.responses.length ∨ s.link.requests = [])
    (accepts : Request → Bool) (body : List Byte → State → Reply) : s.perform accepts body = s := by
  unfold State.perform
  split
  · rfl
  · rename_i q rest hq
    rw [if_neg]
    rcases h with h | h | h
    · simp [State.mayPerform, h]
    · have : ¬s.link.responses.length < 4 := by omega
      simp [State.mayPerform, this, Config.queueCapacity]
    · simp [h] at hq

/-- Everything `perform` can do: nothing, or the head request is performed in ACTIVE with room for its response. -/
theorem State.perform_cases (s : State) (accepts : Request → Bool) (body : List Byte → State → Reply) :
    s.perform accepts body = s ∨
    ∃ q rest, s.Ready q rest ∧ accepts q = true ∧ s.perform accepts body = (body q.payload (s.took rest)).finish q.tag := by
  unfold State.perform
  split
  · exact .inl rfl
  · rename_i q rest hq
    by_cases h : (s.mayPerform && accepts q) = true
    · refine .inr ⟨q, rest, ?_, ?_, ?_⟩
      · simp only [State.mayPerform, Bool.and_eq_true, beq_iff_eq, decide_eq_true_eq] at h
        exact ⟨h.1.1.1, h.1.1.2, hq⟩
      · exact (Bool.and_eq_true _ _ ▸ h).2
      · rw [if_pos h]; rfl
    · exact .inl (if_neg h)

/-- The end of an answered request is the state the claims call answered. -/
@[simp] theorem Reply.finish_answer (s : State) (r : Result) (p : List Byte) (tag : Tag) :
    (Reply.answer s r p).finish tag = s.answered tag r p := rfl

/-- The end of a request that leaves no response. -/
@[simp] theorem Reply.finish_silent (s : State) (tag : Tag) : (Reply.silent s).finish tag = s.recompute := rfl

/-- A request whose checks pass is performed (R28). -/
theorem Checks.guard_pass {c : Checks} (h : c.result = none) (s : State) (p : Reply) : c.guard s p = p := by
  simp [Checks.guard, h]

/-- A request one of whose checks fails is refused with no payload (R28, R31). -/
theorem Checks.guard_fail {c : Checks} {r : Result} (h : c.result = some r) (s : State) (p : Reply) :
    c.guard s p = .answer s r [] := by
  simp [Checks.guard, h]

/-! ## Recomputation and flush -/

/-- The recomputation of nINT is what the claims call it (R176). -/
theorem State.recompute_eq (s : State) : s.recompute = s.Recomputed := rfl

/-- A flush is what the claims call it (R22). -/
theorem Link.flush_eq (l : Link) : l.flush = l.Flushed := by
  unfold Link.flush Link.Flushed
  cases l.txn <;> rfl

/-- A flush leaves both queues empty and no transaction RECEIVING (R22, R23). -/
theorem Link.flush_empty (l : Link) : l.flush.requests = [] ∧ l.flush.responses = [] ∧ l.flush.txn ≠ .receiving := by
  refine ⟨rfl, rfl, ?_⟩
  unfold Link.flush
  cases h : l.txn <;> simp

/-! ## Forcing -/

/-- The model's forcing condition is that of R150. -/
theorem State.forcing_iff (s : State) (n : Fin 6) : s.forcing n = true ↔ s.Forces n := by
  simp [State.forcing, State.Forces, or_assoc]

/-- After `reforce` every line is as the forcing conditions leave it (R150). -/
theorem State.reforce_spec (s : State) : s.Reforced s.reforce.outputs := by
  intro n
  constructor
  · intro h
    have h' := (s.forcing_iff n).2 h
    simp [State.reforce, State.setOutputs, OutLine.follow, h']
  · intro h
    have h' : s.forcing n = false := by
      cases hf : s.forcing n
      · rfl
      · exact absurd ((s.forcing_iff n).1 hf) h
    simp [State.reforce, State.setOutputs, OutLine.follow, h']

/-- `reforce` changes nothing but the lines. -/
theorem State.reforce_eq (s : State) : s.reforce = { s with outputs := s.reforce.outputs } := rfl

/-! ## Occurrences -/

/-- One occurrence of a cause is what the claims call it (R175). -/
theorem Notification.raise_one (q : Notification) (k : Cause) : q.raise k 1 = q.Raised k.num := by
  simp [Notification.raise, Notification.Raised]

/-- Raising one occurrence changes the notification block alone. -/
theorem State.raise_eq (s : State) (k : Cause) : s.raise k = { s with notify := s.notify.Raised k.num } := by
  simp [State.raise, Notification.raise_one, State.setNotify]

/-- An append changes the journal and, for the records it loses, the JOURNAL_LOSS occurrences, and nothing else (R100, R101). -/
theorem State.append_eq (s : State) (b : Body) (f : RecordFlags) :
    s.append b f = { s with
      journal := (s.journal.append s.settings.keepNewest s.time.mark b f).journal
      notify := s.notify.raise .journalLoss (s.journal.append s.settings.keepNewest s.time.mark b f).losses } := rfl

/-! ## The serial bits (R1) -/

/-- A byte is its own eight bits, the most significant first (R1). -/
theorem byteOfBits_self (b : Byte) :
    byteOfBits (b.getLsbD 7) (b.getLsbD 6) (b.getLsbD 5) (b.getLsbD 4) (b.getLsbD 3) (b.getLsbD 2) (b.getLsbD 1) (b.getLsbD 0) =
      b := by
  revert b
  decide +kernel

/-- Fewer than eight bits hold no whole byte (R1). -/
theorem wholeBytes_short {tail : List Bool} (h : tail.length < 8) : wholeBytes tail = [] := by
  unfold wholeBytes
  split
  · simp only [List.length_cons] at h
    omega
  · rfl

/-- The whole bytes of a clocked run are the run, whatever bits are left over after it (R1). -/
theorem wholeBytes_clocked (bytes : List Byte) {tail : List Bool} (h : tail.length < 8) :
    wholeBytes (clocked bytes tail) = bytes := by
  induction bytes with
  | nil => exact wholeBytes_short h
  | cons b rest ih => exact congrArg₂ List.cons (byteOfBits_self b) ih

/-! ## Counts -/

/-- Nothing added to a saturating count leaves it. -/
@[simp] theorem satAdd_zero {w : Nat} (x : BitVec w) : satAdd x 0 = x := by
  have h : min (2 ^ w - 1) (x.toNat + 0) = x.toNat := by have := x.isLt; omega
  rw [satAdd, h, BitVec.ofNat_toNat, BitVec.setWidth_eq]

/-- A count of ticks lies beyond the epoch end when it passes 2⁴² - 1. -/
theorem beyondEnd_eq (n : Nat) : beyondEnd n = decide (2 ^ 42 - 1 < n) := by
  have h : epochEndStamp.toNat = 2 ^ 42 - 1 := by decide
  rw [beyondEnd, h]

/-! ## The journal -/

/-- The aging check leaves a journal whose head is not aged (R106). -/
theorem Tally.agingCheck_of_not_aged {m : TimeMark} {x : Tally}
    (h : ∀ r, x.journal.records.head? = some r → r.seq ≠ x.journal.nextSeq - 32768) : x.agingCheck m = x := by
  unfold Tally.agingCheck Tally.age
  split
  · rfl
  · rename_i r rest hr
    rw [if_neg (h r (by rw [hr]; rfl))]

/-- An append to a class with room, when no record is about to be aged, puts the record at the tail and loses none (R100,
R104). -/
theorem Journal.append_room {j : Journal} {keepNewest : Bool} {m : TimeMark} {body : Body} {flags : RecordFlags}
    (hroom : j.full body.recordClass = false)
    (hhead : ∀ r, j.records.head? = some r → r.seq ≠ j.nextSeq + 1 - 32768) :
    j.append keepNewest m body flags =
      ⟨j.put ⟨0, body, m.stamp, m.untimed, m.holdover, flags, false⟩, 0, some j.nextSeq⟩ := by
  have hage : ∀ r : Record, Tally.agingCheck m ⟨j.put r, 0⟩ = ⟨j.put r, 0⟩ := by
    intro r
    refine Tally.agingCheck_of_not_aged ?_
    intro x hx
    cases hr : j.records with
    | nil =>
      simp only [Journal.put, hr, List.nil_append, List.head?_cons, Option.some.injEq] at hx ⊢
      subst hx
      bv_omega
    | cons a rest =>
      simp only [Journal.put, hr, List.cons_append, List.head?_cons, Option.some.injEq] at hx ⊢
      subst hx
      exact hhead a (by rw [hr]; rfl)
  simp [Journal.append, hroom, Tally.keep, hage]

/-! ## Counters -/

/-- A load leaves 1 to 65536 (R131, R136). -/
theorem latchValue_range (l : BitVec 16) : 1 ≤ latchValue l ∧ latchValue l ≤ 65536 := by
  unfold latchValue
  split
  · omega
  · rename_i h
    have := l.isLt
    have h0 : l.toNat ≠ 0 := fun h' => h (BitVec.eq_of_toNat_eq (by simpa using h'))
    omega

/-! ## CRC-8 -/

/-- A byte equal to the register takes it to 0 (R8). -/
theorem crcByte_self (r : Byte) : crcByte r r = 0 := by simp [crcByte, crcShift]

/-- The CRC-8 of a run with one more byte (R8). -/
theorem crc8_append (l : List Byte) (b : Byte) : crc8 (l ++ [b]) = crcByte (crc8 l) b := by simp [crc8]

end Sys2Proof.Machine
end

