-- ==== Sys2Proof/Laws/Boundary.lean ====
section
/-! SUPPORT. What the pieces of a boundary do, each said once in the words of Safety.lean: step (a) is a `State.ClockStep`, one
line of step (e) a deal of its pulse, and step (g) a `State.BeatStep`. -/

namespace Sys2Proof.Machine

/-! ## Step (a) -/

/-- The ticks of a stamp are its remainder by 1024 (R53). -/
theorem Stamp.ticks_eq_511 (c : Stamp) : Stamp.ticks c = 511 ↔ c.toNat % 1024 = 511 := by
  unfold Stamp.ticks
  rw [← BitVec.toNat_inj]
  simp [BitVec.extractLsb'_toNat]

/-- A slew unit applies away from the epoch end, without a hold, with a slew pending, at .511 (R62). -/
theorem Timebase.unitApplies_iff (t : Timebase) :
    t.UnitApplies ↔ t.clock ≠ epochEndStamp ∧ t.slewHold = false ∧ t.slew ≠ 0 ∧ Stamp.ticks t.clock = 511 := by
  unfold Timebase.UnitApplies
  rw [Stamp.ticks_eq_511]
  tauto

/-- The sign bit of a slew (R61). -/
theorem slew_msb_iff (x : BitVec 16) : x.msb = true ↔ x.toInt < 0 := by
  rw [BitVec.msb_eq_toInt]
  simp

/-- Step (a), in an operating state in which boundaries take place, is what the claims say of it (R46, R48, R52, R53, R56, R62). -/
theorem State.stepA_clockStep (s : State) (hr : s.running = true) : s.ClockStep s.stepA := by
  refine ⟨s.time.advance, (s.setTime s.time.advance).sourceChange, ?_, ?_, ?_, ?_, ?_, ?_, ?_, ?_, ?_, rfl⟩
  case refine_9 =>
    show execSourceChange _ = _
    have hrun : ({ s with time := s.time.advance } : State).running = true := hr
    unfold execSourceChange
    rw [hrun]
    rfl
  all_goals
    try simp only [Timebase.unitApplies_iff, ← slew_msb_iff]
    generalize s.time = t at *
    obtain ⟨-, -, -, source, -, -, clock, -, -, slew, slewHold, -⟩ := t
    simp only [Timebase.advance, Timebase.advanceClock] at *
    by_cases h1 : clock = epochEndStamp <;> by_cases h2 : slewHold = true <;> by_cases h3 : slew = 0 <;>
      by_cases h4 : Stamp.ticks clock = 511 <;> by_cases h5 : slew.msb = true <;> by_cases h6 : source = .holdover <;> simp_all <;>
      exact le_of_lt ((slew_msb_iff slew).1 h5)

/-! ## Step (e) -/

/-- Everything a deal of a line can do (R149): a fresh mark goes; a line with no pulse stays; the last count reverts the line;
any other count lowers the remaining one. -/
theorem OutLine.deal_eq (l : OutLine) : l.deal =
    if l.fresh then { l with fresh := false }
    else match l.pulse with
      | none => l
      | some p =>
        if p.remaining = 1 then { l with level := p.revert, pulse := none }
        else { l with pulse := some ⟨p.remaining - 1, p.revert⟩ } := by
  obtain ⟨owner, level, pulse, fresh, forced⟩ := l
  cases fresh with
  | true => rfl
  | false =>
    cases pulse with
    | none => rfl
    | some p =>
      simp only [OutLine.deal, OutLine.countDown, OutLine.revert, Option.map_some, Bool.false_eq_true, if_false]
      by_cases hp : p.remaining = 1
      · simp [hp, OutLine.write]
      · have : ¬p.remaining - 1 = 0 := by bv_omega
        simp only [if_neg this, if_neg hp]

/-! ## Step (f) -/

/-- When a fire is LATE (R82; log entry 31). -/
theorem Entry.firesLate_iff (e : Entry) (clock : Stamp) :
    e.firesLate clock = true ↔ e.atOnce = false ∧ e.due.toNat + 1 < clock.toNat := by
  simp [Entry.firesLate]

/-- One action of a fire, performed where the start of the fire settled so, is what the claims say of it (R69, R70, R90). -/
theorem State.act_actionStep (s u : State) (id : Fin 32) (flags : RecordFlags) (a : Action) :
    s.ActionStep id flags a u
      (if s.outcomeOf a = .performed then u.act id (satAdd s.sched[id].fires 1) flags a else u) := by
  have start : ∀ c : Counter, c.start = (if c.running then c else
      { c with running := true, value := if c.value = 0 then (if c.latch = 0 then 65536 else c.latch.toNat) else c.value }) := by
    intro c
    obtain ⟨running, value, latch, expiries⟩ := c
    unfold Counter.start Counter.load latchValue
    cases running <;> by_cases h : value = 0 <;> simp [h]
  cases a with
  | journal userTag => exact rfl
  | notify => exact State.raise_eq u .schedule
  | outputLevel line level | outputPulse line level width =>
    unfold State.ActionStep State.outcomeOf
    by_cases h : s.control.op = .active <;> by_cases h1 : s.outputs[line].owner = .schedule <;>
      by_cases h2 : s.outputs[line].forced = true <;> simp_all <;> rfl
  | counterStart n force =>
    unfold State.ActionStep State.outcomeOf
    by_cases h : s.control.op = .active <;> cases force <;>
      simp_all [State.act, State.modCounter, State.setCounters, Counter.startForce, Counter.load, latchValue]
  | counterStop n =>
    unfold State.ActionStep State.outcomeOf
    by_cases h : s.control.op = .active <;>
      simp_all [State.act, State.modCounter, State.setCounters, Counter.stop]

/-- Step (f) leaves no entry marked (R82). -/
theorem State.stepF_atOnce (s : State) (id : Fin 32) : s.stepF.sched[id].atOnce = false := by
  simp [State.stepF, State.setSched]

/-! ## Step (g) -/

/-- Step (g) is what the claims say of it (R49, R157, R162). -/
theorem State.stepG_beatStep (f : State) : f.BeatStep f.stepG := by
  have act : ∀ {t}, f.control.op = .active → (f.setWd f.wd.count).timedDue = some t → f.beatOf t = f.beat := by
    intro t h1 ht
    simp [State.beatOf, State.beatMakes, h1, ht]
  have wait : (f.setWd f.wd.count).timedDue = none → f.beat = f.setWd f.wd.count := by
    intro ht
    simp [State.beat, ht]
  have last : ∀ x : BitVec 12, x - 1 = 0 ↔ x = 1 := fun x => by bv_omega
  unfold State.BeatStep State.stepG
  constructor
  · intro h
    rw [if_neg]
    tauto
  · intro h1 h2
    rw [if_pos ⟨h1, h2⟩]
    have e1 : exec .timeout f = .next (f.beatOf .timeout) := rfl
    have e2 : exec .silence f = .next (f.beatOf .silence) := rfl
    have e3 : exec .grace f = .next (f.beatOf .grace) := rfl
    have e4 : exec .pulseEnd f = .next (f.beatOf .pulseEnd) := rfl
    have e5 : exec .boot f = .next (f.beatOf .boot) := rfl
    rw [e1, e2, e3, e4, e5]
    split
    all_goals rename_i hw
    iterate 3 · rw [wait] <;> simp [Supervisor.count, hw, State.timedDue, State.setWd]
    · split_ifs with h3 h4
      · rw [act h1]
        simp only [State.timedDue, State.setWd, Supervisor.count, hw, h3, if_true]
      · rw [act h1]
        simp only [State.timedDue, State.setWd, Supervisor.count, hw, h3, if_false]
        simp [h4.1, h4.2]
      · rw [wait]
        · simp [State.setWd, Supervisor.count, hw]
        · simp only [State.timedDue, State.setWd, Supervisor.count, hw, h3, if_false, h4]
    all_goals
      split_ifs with h3
      · rw [act h1]
        simp [State.timedDue, State.setWd, Supervisor.count, hw, h3]
      · rw [wait]
        · simp [State.setWd, Supervisor.count, hw]
        · have h4 : ¬f.wd.timer - 1 = 0 := by rw [last]; exact h3
          simp only [State.timedDue, State.setWd, Supervisor.count, hw]
          rw [if_neg h4]

end Sys2Proof.Machine
end

