-- ==== Sys2Proof/Tests/Slice0.lean ====
section
/-! SUPPORT. The model's own tests: the WellFormed smoke, the wire formats, one step of each worked example of spec/, and for each
statement of Certificates/Slice0/Obligations.lean that has hypotheses a witness that meets them, clause by clause. Expected
values come from the spec's text, named in each docstring. -/

namespace Sys2Proof.Tests

open Sys2Proof.Machine

-- One theorem after another: each evaluation in the kernel would otherwise hold a thread of its own.
set_option Elab.async false

/-! ## Helpers -/

/-- A property of the next state; false for a fault or a refusal. -/
def after (o : Host.Outcome State Fault Refusal) (f : State → Bool) : Bool :=
  match o with
  | .next t => f t
  | .fault _ => false
  | .refused _ => false

/-- The state with one request waiting, tag 1. -/
def withReq (k : Kind) (p : List Byte) (s : State) : State := s.setLink { s.link with requests := [⟨k, 1, p⟩] }

/-- The state in another operating state. -/
def inOp (op : OpState) (s : State) : State := s.setControl { s.control with op := op }

/-- The state with the supervisor in another state. -/
def inWd (w : WdState) (s : State) : State := s.setWd { s.wd with state := w }

/-- The state with some locks engaged. -/
def locked (l : Locks) (s : State) : State := s.setControl { s.control with locks := l }

/-- The state with one setting written. -/
def cfg (i : Nat) (v : Byte) (s : State) : State := s.setSettings (s.settings.setIfInBounds i v)

/-- The state with one output line changed. -/
def line (n : Fin 6) (f : OutLine → OutLine) (s : State) : State := s.modLine n f

/-- The state with one schedule entry. -/
def entry (id : Fin 32) (e : Entry) (s : State) : State := s.setSched (s.sched.set id.val e)

/-- The state with one sense line changed. -/
def sense (n : Fin 8) (f : SenseLine → SenseLine) (s : State) : State := s.setSense (s.sense.set n.val (f s.sense[n]))

/-- The state at a clock value, which is VALID. -/
def atClock (seconds : Nat) (ticks : Nat) (s : State) : State :=
  s.setTime { s.time with clock := BitVec.ofNat 42 (seconds * 1024 + ticks), valid := true }

/-- A stamp. -/
def stamp (seconds ticks : Nat) : Stamp := BitVec.ofNat 42 (seconds * 1024 + ticks)

/-- The request performed answers a result and a payload. -/
def answers (i : Instr) (s : State) (r : Result) (p : List Byte) : Bool :=
  after (exec i s) fun t => t.link.responses == [⟨1, r, p⟩]

/-- A state of `withReq` is ready for its request when it is ACTIVE with room for a response. -/
theorem ready (k : Kind) (p : List Byte) (s : State) (h : s.control.op = .active) (hr : s.link.responses.length < 4) :
    (withReq k p s).Ready ⟨k, 1, p⟩ [] := ⟨h, hr, rfl⟩

/-! ## WellFormed: an ill-formed term for each check, which the check refuses and exec stops on -/

theorem test_wellFormed_refuses :
    Instr.wellFormed (.confirmedChange 8) = false ∧ Instr.wellFormed (.expiry 2) = false ∧
    Instr.wellFormed (.revert 6) = false ∧ Instr.wellFormed (.fire 32) = false := by decide

theorem test_wellFormed_admits :
    Instr.wellFormed (.confirmedChange 7) = true ∧ Instr.wellFormed (.expiry 1) = true ∧
    Instr.wellFormed (.revert 5) = true ∧ Instr.wellFormed (.fire 31) = true ∧ Instr.wellFormed .timeRead = true := by decide

theorem test_illFormed_faults : ∀ s : State,
    exec (.confirmedChange 8) s = .fault .noSuchLine ∧ exec (.expiry 2) s = .fault .noSuchCounter ∧
    exec (.revert 6) s = .fault .noSuchLine ∧ exec (.fire 32) s = .fault .noSuchEntry := fun _ => ⟨rfl, rfl, rfl, rfl⟩

/-! ## The host link -/

/-- R8: the register goes FFH, F3H, D7H, 2BH over three zero bytes, so POLL is 00H 00H 00H 2BH. -/
theorem test_crc8 : crc8 [0] = 0xF3 ∧ crc8 [0, 0] = 0xD7 ∧ crc8 [0, 0, 0] = 0x2B := by decide

/-- 1.12, transaction 1: the first up-frame after a power-on reset is 07H 00H 00H 00H B3H. -/
theorem test_ncsFall_firstImage :
    after (exec .ncsFall State.reset) (fun t => t.link.image == [0x07, 0, 0, 0, 0xB3]) = true := by decide +kernel

/-- 1.12, transactions 1 and 2: the POLL frame with a byte more is POLL, and the TIME_READ frame of tag 1 is ACCEPTED. -/
theorem test_ncsRise_judges :
    after (exec (.ncsRise (clocked [0, 0, 0, 0x2B, 0x55] [])) (State.reset.ncsFall))
      (fun t => t.link.verdict == .poll && t.link.requests == []) = true ∧
    after (exec (.ncsRise (clocked (downFrame 0x20 1 0 []) [])) (State.reset.ncsFall))
      (fun t => t.link.verdict == .accepted && t.link.lastTag == some 1 && t.link.requests == [⟨.timeRead, 1, []⟩]) = true := by
  decide +kernel

/-- R1, R8: the bits of POLL, 00H 00H 00H 2BH, each byte's most significant first, and three bits left over, which are
discarded; and of the first up-frame's 07H the bits 0 to 7 on SDO. -/
theorem test_ncsRise_bits :
    after (exec (.ncsRise (List.replicate 24 false ++ [false, false, true, false, true, false, true, true] ++
        [true, true, true])) State.reset.ncsFall) (fun t => t.link.verdict == .poll && t.link.errors == 0) = true ∧
    (List.range 8).map State.reset.ncsFall.sdoBit =
      [some false, some false, some false, some false, some false, some true, some true, some true] ∧
    State.reset.sdoBit 0 = none := by decide +kernel

/-- 1.12, transaction 4: the acknowledgement of tag 1 removes the tag-1 response, and the tag-2 request is accepted. -/
theorem test_ncsRise_acknowledges :
    after (exec (.ncsRise (clocked (downFrame 0x20 2 1 []) []))
        (State.reset.setLink { State.reset.link with txn := .receiving, lastTag := some 1, responses := [⟨1, .ok, []⟩] }))
      (fun t => t.link.responses == [] && t.link.requests == [⟨.timeRead, 2, []⟩]) = true := by decide +kernel

/-! ## Settings, locks and refusals (2.10) -/

/-- The part of 2.10: supervisor WATCHING, SUPERVISOR lock engaged. -/
def refusalsPart : State := locked ⟨false, true, false⟩ (inWd .watching State.reset)

/-- 2.10: four values from 1CH are written; 1FH with 03H, 07H is RANGE; 23H with 20H, 05H is LOCKED before STATE. -/
theorem test_settingWrite_refusals :
    answers .settingWrite (withReq .settingWrite [0x1C, 0x01, 0x02, 0x10, 0x01] refusalsPart) .ok [] = true ∧
    answers .settingWrite (withReq .settingWrite [0x1F, 0x03, 0x07] refusalsPart) .range [] = true ∧
    answers .settingWrite (withReq .settingWrite [0x23, 0x20, 0x05] refusalsPart) .locked [] = true ∧
    answers .settingWrite (withReq .settingWrite [0x2A, 3, 0, 0] refusalsPart) .locked [] = true := by decide +kernel

/-- 2.10: LOCK of CLOCK and SUPERVISOR answers 03H. -/
theorem test_lock_engagesClock :
    answers .lock (withReq .lock [0x03] refusalsPart) .ok [0x03] = true := by decide +kernel

/-- 2.10: 2AH with count 3 is RANGE and with count 2 the defaults 03H 00H. -/
theorem test_settingRead_end :
    answers .settingRead (withReq .settingRead [0x2A, 3] refusalsPart) .range [] = true ∧
    answers .settingRead (withReq .settingRead [0x2A, 2] refusalsPart) .ok [0x03, 0x00] = true := by decide +kernel

/-! ## The clock (3.13 to 3.15) -/

/-- 3.13: TIME_SET to 1 700 000 000.0 at clock 1.260 moves the RELATIVE entry from 31.236 to 24 ticks before
1 700 000 030.0, answers the old value, one shifted entry and no clamp, and records TIME_STEP with UNTIMED. -/
theorem test_timeSet_firstTime :
    after (exec .timeSet (withReq .timeSet (be32 1700000000 ++ be16 0)
        ((entry 0 { Entry.free with state := .armed, relative := true, due := stamp 31 236 } State.reset).setTime
          { State.reset.time with clock := stamp 1 260, source := .xtal })))
      (fun t => t.link.responses == [⟨1, .ok, [0, 0, 0, 1, 0x01, 0x04, 1, 0]⟩] &&
        t.sched[0].due == stamp 1700000030 0 - 24 && t.time.valid &&
        t.journal.records.getLast?.map (fun r => (r.body, r.stamp, r.untimed)) ==
          some (.timeStep (stamp 1 260), stamp 1700000000 0, true)) = true := by decide +kernel

/-- 3.14: at .511 a slew of +3 takes the clock to .513 and leaves +2; a slew of -3 holds it and leaves -2. -/
theorem test_boundary_slew :
    after (exec (.tickBoundary 0 true) ((atClock 1700003600 511 State.reset).setTime
        { (atClock 1700003600 511 State.reset).time with slew := 3 }))
      (fun t => t.time.clock == stamp 1700003600 513 && t.time.slew == 2) = true ∧
    after (exec (.tickBoundary 0 true) ((atClock 1700003600 511 State.reset).setTime
        { (atClock 1700003600 511 State.reset).time with slew := -3 }))
      (fun t => t.time.clock == stamp 1700003600 511 && t.time.slew == -2 && t.time.slewHold) = true := by decide +kernel

/-- 3.15: the boundary after the failure advances to .301, makes the source HOLDOVER with count 0, and records CLOCK_FAULT
there with HOLDOVER; CLOCK_SOURCE is pending at its end. -/
theorem test_boundary_crystalFailure :
    after (exec (.tickBoundary 0 true) (State.reset.setTime { State.reset.time with
        clock := stamp 1700090000 300, valid := true, source := .xtal, declaration := some .failed, divider := 32 }))
      (fun t => t.time.source == .holdover && t.time.holdover == 0 && t.notify.pending.getLsbD 7 &&
        t.journal.records.getLast?.map (fun r => (r.body, r.stamp, r.holdover)) ==
          some (.clockFault, stamp 1700090000 301, true)) = true := by decide +kernel

/-! ## The schedule (4.12, 4.13) -/

/-- 4.12: the 22-byte payload arms entry 5 for 1 700 006 400.0. -/
theorem test_schedArm_daily :
    answers .schedArm (withReq .schedArm
        ([5, 0x10] ++ be32 1700006400 ++ [0, 0] ++ be24 86400 ++ [0, 0] ++ [2, 0x04, 0x12, 0x08, 0x00, 0x01, 0x01, 0x01, 0])
        (atClock 1700000000 0 State.reset)) .ok (Stamp.bytes (stamp 1700006400 0)) = true := by decide +kernel

/-- The entry 5 of 4.12, due at a number of seconds. -/
def daily (due : Nat) : Entry :=
  { Entry.free with
    state := .armed
    due := stamp due 0
    period := some (BitVec.ofNat 34 (86400 * 1024))
    actions := [.outputPulse 2 true 2048, .journal 0x0101]
    fires := 2 }

/-- 4.12, the forward step: one LATE fire at 1 700 266 000.1, fire count 3, missed 1, due 1 700 352 000.0, and O2 pulsed. -/
theorem test_fire_daily :
    after (exec (.fire 5) (line 2 (fun l => { l with owner := .schedule })
        (entry 5 (daily 1700179200) (atClock 1700266000 1 State.reset))))
      (fun t => t.sched[5].fires == 3 && t.sched[5].missed == 1 && t.sched[5].due == stamp 1700352000 0 &&
        t.outputs[2].level && t.outputs[2].pulse == some ⟨2048, false⟩ &&
        t.journal.records.getLast?.map (fun r => (r.body, r.flags.late)) == some (.scheduleFire 5 0x0101 3, true)) = true := by
  decide +kernel

/-- At .511 a positive unit takes the clock to .513; entry 5, due at a tick of that second, fires there, LATE or not. -/
def slewFires (ticks : Nat) (atOnce late : Bool) : Bool :=
  let s := entry 5 { daily 0 with due := stamp 1700003600 ticks, atOnce := atOnce } (atClock 1700003600 511 State.reset)
  after (exec (.tickBoundary 0 true) (s.setTime { s.time with slew := 3 })) fun t =>
    t.time.clock == stamp 1700003600 513 && !t.sched[5].atOnce &&
    t.journal.records.getLast?.map (fun r => (r.body, r.flags.late)) == some (.scheduleFire 5 0x0101 3, late)

/-- R63, R74, R82: an entry due .512 and one just armed with a RELATIVE offset of 0 are not LATE at .513; any other entry due .511 is
2 ticks past its due stamp and LATE; and no mark stays. -/
theorem test_boundary_slewLate :
    slewFires 512 false false = true ∧ slewFires 511 true false = true ∧ slewFires 511 false true = true := by decide +kernel

/-- SCHED_ARM of entry 5 with flags and an offset in ticks leaves it ARMED, with the mark of an interval of 0 or without. -/
def armsAtOnce (flags ticks : Byte) (atOnce : Bool) : Bool :=
  after (exec .schedArm (withReq .schedArm ([5, flags] ++ be32 0 ++ [0, ticks] ++ [1, 0x02, 0, 0, 0])
    (atClock 1700003600 511 State.reset))) fun t => t.sched[5].state == .armed && t.sched[5].atOnce == atOnce

/-- R74, R82: an entry armed with a RELATIVE offset of 0 is marked, one with an offset of 1 and an ABSOLUTE one are not. -/
theorem test_schedArm_atOnce :
    armsAtOnce 1 0 true = true ∧ armsAtOnce 1 1 false = true ∧ armsAtOnce 0 0 false = true := by decide +kernel

/-- R69, R81, R152: a first JOURNAL action already carries the REFUSED of a later one; a level and then a pulse on one line leave
the level just set as the revert level; and the last JOURNAL follows the first. -/
theorem test_fire_listOrder :
    after (exec (.fire 5) (line 2 (fun l => { l with owner := .schedule })
        (entry 5 { daily 5 with actions := [.journal 1, .outputLevel 2 true, .outputPulse 2 false 9, .outputLevel 3 true, .journal 2] }
          (atClock 5 0 State.reset))))
      (fun t => t.outputs[2].level == false && t.outputs[2].pulse == some ⟨9, true⟩ && t.outputs[3] == State.reset.outputs[3] &&
        t.sched[5].refused == 1 && (t.journal.records.drop 1).map (fun r => (r.body, r.flags.refused)) ==
          [(.scheduleFire 5 1 3, true), (.scheduleFire 5 2 3, true)]) = true := by decide +kernel

/-- 4.13: at D + 10240 with a period of 16, 576 occurrences are passed over and the next is D + 9232; at D + 10241 none is,
and the next is D + 9248. -/
theorem test_advance_burst :
    (let e : Entry := { Entry.free with state := .armed, due := stamp 100 0, period := some 16, burst := true };
      (e.advance (stamp 110 0)).missed = 576 ∧ (e.advance (stamp 110 0)).due = stamp 100 9232 ∧
      ((e.advance (stamp 110 0)).advance (stamp 110 1)).missed = 576 ∧
      ((e.advance (stamp 110 0)).advance (stamp 110 1)).due = stamp 100 9248) := by decide +kernel

/-- R68: the bytes of each kind of action, and a pulse of width 0, which is none. -/
theorem test_decodeAction :
    decodeAction 0x01 0x12 0x34 0 = some (.journal 0x1234) ∧ decodeAction 0x02 0 0 0 = some .notify ∧
    decodeAction 0x03 5 1 0 = some (.outputLevel 5 true) ∧ decodeAction 0x04 0x15 0 9 = some (.outputPulse 5 true 9) ∧
    decodeAction 0x05 1 1 0 = some (.counterStart 1 true) ∧ decodeAction 0x06 0 0 0 = some (.counterStop 0) ∧
    decodeAction 0x04 0x15 0 0 = none ∧ decodeAction 0x03 6 1 0 = none := by decide +kernel

/-! ## The journal (5.8 to 5.10) -/

/-- A HOST_NOTE record with a sequence number. -/
def noteRecord (n : Nat) : Record := ⟨BitVec.ofNat 16 n, .hostNote 0, 0, false, false, .none, false⟩

/-- A run of `count` HOST_NOTE records numbered from `first`, with the cursor at a position. -/
def noteJournal (first count cursor : Nat) : Journal :=
  ⟨(List.range count).map fun i => noteRecord (first + i), cursor, BitVec.ofNat 16 (first + count)⟩

/-- 5.8: a pull of 3 from ten records, 40 to 49, shows n = 3 and 7 undelivered; JOURNAL_ACK of 42 then removes three. -/
theorem test_journal_pullAndAck :
    after (exec .journalPull (withReq .journalPull [3] (State.reset.setJournal (noteJournal 40 10 0))))
      (fun t => t.journal.cursor == 3 && (t.link.responses.map fun r => r.payload.take 3) == [[3, 0, 7]]) = true ∧
    answers .journalAck (withReq .journalAck (be16 42) (State.reset.setJournal (noteJournal 40 10 3))) .ok [0, 3] = true := by
  decide +kernel

/-- 5.9: with 240 general records, KEEP_NEWEST and the cursor at the fourth, one more record opens LOSS 1241 with a general
count of 1, evicts 1001, and takes 1242. -/
theorem test_journal_keepNewest :
    after (exec .journalNote (withReq .journalNote (be48 7) (cfg 0x22 1 (State.reset.setJournal (noteJournal 1001 240 3)))))
      (fun t => t.journal.records.length == 241 && t.journal.cursor == 2 &&
        (t.journal.records.drop 239).map (fun r => (r.seq, r.body, r.opened)) ==
          [(1241, .loss 1 0, true), (1242, .hostNote 7, false)] && t.notify.counts[1] == 1) = true := by decide +kernel

/-- 5.9, the stale acknowledgement: 1003 precedes the head 1006, so the answer is OK with 0 removed. -/
theorem test_journalAck_stale :
    answers .journalAck (withReq .journalAck (be16 1003) (State.reset.setJournal (noteJournal 1006 235 0))) .ok [0, 0] =
      true := by decide +kernel

/-- 5.10: with 240 general records and KEEP_OLDEST, a record opens a LOSS record and is discarded; the answer says so. -/
theorem test_journal_keepOldest :
    after (exec .journalNote (withReq .journalNote (be48 7) (State.reset.setJournal (noteJournal 1 240 0))))
      (fun t => t.journal.records.length == 241 && t.journal.records.getLast?.map (fun r => r.body) == some (.loss 1 0) &&
        t.link.responses == [⟨1, .ok, [0, 0, 0]⟩]) = true := by decide +kernel

/-! ## The sense inputs (6.11, 6.12) -/

/-- 6.11: F = 2 and a filtered level of 1; the samples 0, 1, 0, 0, 1, 0, 0, 0 confirm at the eighth only. -/
theorem test_filter_bounce :
    (let l : SenseLine := { SenseLine.powerOn with filtered := true, restart := false }
      let run := [false, true, false, false, true, false, false].foldl SenseLine.filter l
      run.candidate = some false ∧ run.stable = 2 ∧ run.confirmed 2 = false ∧ (run.filter false).confirmed 2 = true) := by
  decide

/-- 6.11, boundary 8: SENSE_EDGE with line 3, level 0, filter 2, no capture, and a SENSE occurrence. -/
theorem test_boundary_doorOpens :
    after (exec (.tickBoundary 0 true) (cfg 0x03 0x0B (sense 3 (fun _ => ⟨false, true, some false, 2, false, 0, 0, true⟩)
        State.reset)))
      (fun t => !t.sense[3].filtered && t.notify.counts[5] == 1 &&
        t.journal.records.getLast?.map (fun r => (r.body, r.stamp)) == some (.senseEdge 3 false 2 .none 0, stamp 0 1)) =
      true := by decide +kernel

/-- 6.12: the close of the window records SENSE_SUPPRESSED with line 5 and count 7, and clears both counts. -/
theorem test_rateWindowClose_meter :
    after (exec .rateWindowClose (sense 5 (fun l => { l with windowEvents := 11, windowSuppressed := 7 }) State.reset))
      (fun t => t.sense[5].windowEvents == 0 && t.sense[5].windowSuppressed == 0 &&
        t.journal.records.getLast?.map (fun r => r.body) == some (.senseSuppressed 5 7)) = true := by decide +kernel

/-- R119, R126: on a line just written from OFF to EDGE the first sample only restarts the filter, whatever ran before. -/
theorem test_confirmedChange_afterOff :
    (let s := cfg 0x03 0x0B (sense 3 (fun _ => ⟨true, true, some false, 2, false, 0, 0, false⟩) State.reset);
      after (exec (.confirmedChange 3) s) (fun t => t == s) &&
      after (exec (.tickBoundary 0 true) s) (fun t => t.sense[3] == ⟨false, false, none, 0, false, 0, 0, true⟩ &&
        t.journal == s.journal)) = true := by decide +kernel

/-! ## The counters (7.13) -/

/-- The part of 7.13 just before a boundary with a multiple of 32 at which C0 expires: O1 toggles, C1 counts C0's expiries. -/
def blinkingPart (c1 : Nat) : State :=
  (cfg 0x1E 0x01 (cfg 0x20 0x11 (cfg 0x1F 0x33 (line 1 (fun l => { l with owner := .counter0 }) State.reset)))).setCounters
    #v[⟨true, 1, 16, 0⟩, ⟨true, c1, 20, 0⟩]

/-- 7.13: at C0's first expiry C0 reloads 16, O1 is inverted, COUNTER0 is raised, no record is made, and C1 steps to 19. -/
theorem test_boundary_blink :
    after (exec (.tickBoundary 0 true) ((blinkingPart 20).setTime { (blinkingPart 20).time with uptime := 5503 }))
      (fun t => t.counters[0] == ⟨true, 16, 16, 1⟩ && t.counters[1] == ⟨true, 19, 20, 0⟩ && t.outputs[1].level &&
        t.notify.counts[3] == 1 && t.journal.records.length == 1) = true := by decide +kernel

/-- 7.13, the twentieth expiry: C1 expires in the same step (d), reloads 20, stops, and is recorded. -/
theorem test_boundary_alarm :
    after (exec (.tickBoundary 0 true) ((blinkingPart 1).setTime { (blinkingPart 1).time with uptime := 5503 }))
      (fun t => t.counters[1] == ⟨false, 20, 20, 1⟩ && t.notify.counts[4] == 1 &&
        t.journal.records.getLast?.map (fun r => r.body) == some (.counterExpiry 1 1)) = true := by decide +kernel

/-! ## The output lines (8.10) -/

/-- 8.10: a pulse of 512 answers revert level 0 and 0000H; a retrigger at 312 with 100 answers 0 and 312. -/
theorem test_outputPulse_retrigger :
    answers .outputPulse (withReq .outputPulse ([3, 1] ++ be16 512) State.reset) .ok [0, 0, 0] = true ∧
    answers .outputPulse (withReq .outputPulse ([3, 1] ++ be16 100)
      (line 3 (fun l => { l with level := true, pulse := some ⟨312, false⟩ }) State.reset)) .ok (0 :: be16 312) = true := by
  decide +kernel

/-- 8.10, the host reset: an escalate line is forced, its pulse cancelled, and a write of it is SAFE_HOLD. -/
theorem test_grace_forcesEscalateLine :
    after (exec .grace (cfg 0x1B 0x09 (line 3 (fun l => { l with level := true, pulse := some ⟨60, false⟩ })
        (State.reset.setWd { State.reset.wd with state := .warned, timer := 1 }))))
      (fun t => t.wd.state == .resetting && t.wd.hostResets == 1 && t.outputs[3] == ⟨.host, false, none, false, true⟩ &&
        t.link.epoch && t.hrst == .high) = true ∧
    answers .outputWrite (withReq .outputWrite [0x08, 0x08] (line 3 (fun l => { l with forced := true }) State.reset))
      .safeHold [] = true := by decide +kernel

/-! ## The supervisor (9.11) -/

/-- 9.11, B + 160 and B + 196: the timeout of 160 beats, and the end of the pulse with a boot timer of 160. -/
theorem test_wd_timeoutAndPulseEnd :
    after (exec .timeout (State.reset.setWd { State.reset.wd with state := .watching, elapsed := 159 }))
      (fun t => t.wd.state == .warned && t.wd.timer == 32 && t.notify.counts[6] == 1) = true ∧
    after (exec .pulseEnd (State.reset.setWd { State.reset.wd with state := .resetting, timer := 1, hostResets := 1 }))
      (fun t => t.wd.state == .rearm && t.wd.timer == 160 && t.wd.token == 0 && t.hrst == .low) = true := by decide +kernel

/-- 9.11, B + 684: the fourth count exceeds 3, so REARM goes to HOLDING, with every line forced and no flush. -/
theorem test_boot_holding :
    after (exec .boot (State.reset.setWd { State.reset.wd with state := .rearm, timer := 1, hostResets := 3 }))
      (fun t => t.wd.state == .holding && t.wd.hostResets == 4 && t.outputs[0].forced && !t.link.epoch &&
        t.journal.records.getLast?.map (fun r => r.body) == some (.watchdogStage .rearm .holding .boot 4)) = true := by
  decide +kernel

/-! ## Notification (10.6) -/

/-- 10.6, step 5: the pairs (5, 5) and (3, 12) clear COUNTER0 and not SENSE, whose count has moved; the answer is 0020H. -/
theorem test_notifyAck_raced :
    answers .notifyAck (withReq .notifyAck [5, 5, 3, 12] (State.reset.setNotify
      ⟨0x028, 0x029, (Vector.replicate 12 0 |>.set 5 6 |>.set 3 12), true⟩)) .ok [0x00, 0x20] = true := by decide +kernel

/-! ## Operating states (11.7) -/

/-- 11.7, step 1: ENTER_BACKUP during RESETTING suspends the supervisor, ends forcing with O4 kept at 1, and flushes. -/
theorem test_enterBackup_duringReset :
    after (exec .enterBackup (cfg 0x1C 0x0C (line 4 (fun l => { l with level := true, forced := true })
        (State.reset.setWd { State.reset.wd with state := .resetting, timer := 2, hostResets := 1 }))))
      (fun t => t.control.op == .backup && t.wd.state == .suspended && t.wd.hostResets == 1 &&
        t.outputs[4] == ⟨.host, true, none, false, false⟩ && t.link.epoch && t.hrst == .high) = true := by decide +kernel

/-- 11.7, step 3: the return after 300 065 ticks records a duration of 293 s and re-arms the supervisor. -/
theorem test_return_afterOutage :
    after (exec .returnFromBackup ((inOp .backup (inWd .suspended State.reset)).setTime
        { State.reset.time with uptime := 300065 }))
      (fun t => t.control.op == .active && t.wd.state == .rearm && t.wd.timer == 160 && t.notify.counts[9] == 1 &&
        t.journal.records.map (fun r => r.body) ==
          [.deviceReset .powerOn, .powerUp 293, .watchdogStage .suspended .rearm .powerUp 0]) = true := by decide +kernel

/-- R181, R189: the release clears the notification block, and then raises DEVICE_RESET alone; CLOCK_SOURCE follows its condition. -/
theorem test_release_clearsNotification :
    after (exec .release ((inOp .held State.reset).setNotify ⟨0xFFF, 0xFFF, Vector.replicate 12 9, false⟩))
      (fun t => t.notify == ⟨0x880, 0, Vector.replicate 12 0 |>.set 11 1, false⟩) = true := by decide +kernel

/-- R145, R168, R176, R188: HRST in RESETTING, in HOLDING and in the operating states; a push-pull line at level 1; and nINT. -/
theorem test_pins :
    ([OpState.active, .held, .backup, .powerOnHold].map fun op => (inOp op (inWd .resetting State.reset)).hrst) =
      [.high, .low, .high, .high] ∧
    ([OpState.active, .held].map fun op => (inOp op (inWd .holding State.reset)).hrst) = [.high, .high] ∧
    ([OpState.active, .held].map fun op => (inOp op State.reset).hrst) = [.low, .low] ∧
    ([OpState.active, .held, .backup, .powerOnHold].map fun op =>
      (inOp op (cfg 0x18 0x01 (line 0 (fun l => { l with level := true }) State.reset))).outPin 0) =
      [.high, .high, .highZ, .highZ] ∧
    State.reset.nintPin = .highZ ∧ (State.reset.setNotify { State.reset.notify with nint := true }).nintPin = .low := by
  decide +kernel

/-- R184: the 66th boundary of good VMAIN in BACKUP returns, the 65th does not. -/
theorem test_boundary_restores :
    after (exec (.tickBoundary 0 true) ((inOp .backup State.reset).setControl
        { (inOp .backup State.reset).control with restoreCount := 65 })) (fun t => t.control.op == .active) = true ∧
    after (exec (.tickBoundary 0 true) ((inOp .backup State.reset).setControl
        { (inOp .backup State.reset).control with restoreCount := 64 })) (fun t => t.control.op == .backup) = true := by
  decide +kernel

/-- R188, R191: a main fail in the power-on hold begins the run of good RC ticks again. -/
theorem test_enterBackup_inHold :
    (let s := inOp .powerOnHold State.reset;
      after (exec .enterBackup (s.setControl { s.control with restoreCount := 65 }))
        (fun t => t.control.op == .powerOnHold && t.control.restoreCount == 0)) = true := by decide +kernel

/-! ## Witnesses: for each statement with hypotheses, states and operands that meet them, clause by clause at the clauses'
boundary values -/

/-- The reset state with nCS low, a transaction RECEIVING and the receive record clear, and a link state changed by `f`. -/
def receiving (f : Link → Link) : State := State.reset.setLink (f { State.reset.link with txn := .receiving, rx := .clear })

/-- A queue of `n` requests. -/
def queue (n : Nat) : List Request := List.replicate n ⟨.timeRead, 3, []⟩

/-- A queue of `n` responses. -/
def replies (n : Nat) : List Response := List.replicate n ⟨3, .ok, []⟩

/-- The part with one field of its clock changed. -/
def timed (f : Timebase → Timebase) (s : State) : State := s.setTime (f s.time)

/-- The part with its readings of nRST and its restore count. -/
def reading (cycles : Nat) (count : Nat) (s : State) : State :=
  s.setControl { s.control with nrst := ⟨true, cycles, true⟩, restoreCount := count }

/-- StepRunsFrontCommand, with an empty queue: a request at the head and the commands that perform it, an operation that none
names among them; no request, without a supply, in the power-on hold and in ACTIVE; and each count on either side of its limit.
Which way a free input turns is not constrained (log entry 3). -/
theorem witness_StepRunsFrontCommand :
    (∀ (k : Kind) (p : List Byte), (withReq k p State.reset).pending = [] ∧ (withReq k p State.reset).Ready ⟨k, 1, p⟩ []) ∧
    performs .timeRead ⟨.timeRead, 1, []⟩ ∧ performs .counterLoad ⟨.counterControl, 1, [0, 3]⟩ ∧
    (∀ i ∈ [Instr.counterStart, .counterStartForce, .counterStop, .counterLoad], performs i ⟨.counterControl, 1, [0, 4]⟩) ∧
    (∀ (op : OpState) (q : Request) (rest : List Request),
      (inOp op State.reset).pending = [] ∧ (inOp op State.reset).control.op = op ∧ ¬(inOp op State.reset).Ready q rest) ∧
    (∀ (m : Monitor) (c : ClockSource) (d : Option Declaration) (divider gap : Nat), ∃ t : Timebase,
      t = (timed (fun t => { t with monitor := m, source := c, declaration := d, divider := divider, gap := gap }) State.reset).time ∧
      t.monitor = m ∧ t.source = c ∧ t.declaration = d ∧ t.divider = divider ∧ t.gap = gap) ∧
    (∀ cycles count : Nat, (reading cycles count State.reset).control.nrst.cycles = cycles ∧
      (reading cycles count State.reset).control.restoreCount = count) ∧
    (16382 + 1 < 16384 ∧ ¬16383 + 1 < 16384) ∧ (30 + 1 < 32 ∧ 32 ≤ 31 + 1) ∧ (14 + 1 < 16 ∧ 16 ≤ 15 + 1) ∧
    (64 + 1 < 66 ∧ 66 ≤ 65 + 1) ∧ (31 + 1 < 33 ∧ 33 ≤ 32 + 1) :=
  ⟨fun k p => ⟨rfl, ready k p _ rfl (by decide)⟩, rfl, ⟨rfl, .inl rfl⟩, fun i hi => by
      simp only [List.mem_cons, List.not_mem_nil, or_false] at hi
      rcases hi with rfl | rfl | rfl | rfl <;> exact ⟨rfl, .inr (by decide)⟩,
    fun _ _ _ => ⟨rfl, rfl, fun h => nomatch h.2.2⟩, fun _ _ _ _ _ => ⟨_, rfl, rfl, rfl, rfl, rfl, rfl⟩,
    fun _ _ => ⟨rfl, rfl⟩, by omega⟩

/-- TransactionEdges: the four transaction and link conditions, and seven bits. -/
theorem witness_TransactionEdges :
    (State.reset.link.txn = .idle ∧ State.reset.control.op = .active) ∧
    ((inOp .held State.reset).link.txn = .idle ∧ (inOp .held State.reset).control.op ≠ .active) ∧
    ((receiving id).link.txn = .receiving ∧ (receiving id).link.txn ≠ .idle ∧ (receiving id).link.rx = .clear) ∧
    (receiving fun l => { l with txn := .discarding }).link.txn = .discarding ∧
    (List.replicate 7 true).length < 8 := by decide +kernel

/-- NcsRiseAcceptsRequest: the queue with three requests, the first and the last of the tags, and seven bits left over, as in the
two statements after it. -/
theorem witness_NcsRiseAcceptsRequest :
    (let s := receiving fun l => { l with requests := queue 3, lastTag := some 14 };
      s.link.txn = .receiving ∧ s.link.rx = .clear ∧ kindOf 0x20 ([] : List Byte).length = some .timeRead ∧
      Kind.timeRead ≠ .poll ∧ (15 : Tag) ≠ 0 ∧ s.link.lastTag ≠ some 15 ∧ s.link.lastTag ≠ some 1 ∧
      s.link.requests.length < 4 ∧ (List.replicate 7 true).length < 8) := by decide +kernel

/-- NcsRiseOtherValidFrames: an unknown kind, a POLL with a tag, a request without one, POLL, a repeated tag, a full queue. -/
theorem witness_NcsRiseOtherValidFrames :
    (let s := receiving fun l => { l with requests := queue 4, lastTag := some 15 };
      s.link.txn = .receiving ∧ s.link.rx = .clear ∧ ([] : List Byte).length ≤ 255 ∧
      kindOf 0xFF 0 = none ∧ kindOf 0x20 1 = none ∧ (kindOf 0x00 0 = some .poll ∧ (1 : Tag) ≠ 0) ∧
      (kindOf 0x20 0 ≠ some .poll ∧ kindOf 0x20 0 ≠ none) ∧ s.link.lastTag = some 15 ∧
      (s.link.lastTag ≠ some 1 ∧ 4 ≤ s.link.requests.length)) := by decide +kernel

/-- NcsRiseBadFrames: one byte, a frame one byte short of 4 + L, and a POLL frame with a wrong CRC-8. -/
theorem witness_NcsRiseBadFrames :
    ((receiving id).link.txn = .receiving ∧ (receiving id).link.rx = .clear) ∧
    ([0] : List Byte).length < 3 ∧
    ([0, 0x10, 1, 0] : List Byte).length < 4 + (byteAt [0, 0x10, 1, 0] 2).toNat ∧
    (4 + (byteAt [0, 0, 0, 0x2A] 2).toNat ≤ ([0, 0, 0, 0x2A] : List Byte).length ∧
      byteAt [0, 0, 0, 0x2A] 3 ≠ crc8 (([0, 0, 0, 0x2A] : List Byte).take 3)) := by decide +kernel

/-- LinkInvariantKept: both queues full, with a command at the front of the queue. -/
theorem witness_LinkInvariantKept :
    (let s := (receiving fun l => { l with requests := queue 4, responses := replies 4 }).setPending [.enterHeld];
      s.LinkWf ∧ ∃ t, step s = .next t) :=
  ⟨⟨by decide, by decide, fun h => absurd rfl h⟩, _, rfl⟩

/-- RequestsWait: another operating state, a full response queue, and no request. -/
theorem witness_RequestsWait :
    isRequest .timeRead = true ∧ (inOp .held State.reset).control.op ≠ .active ∧
    4 ≤ (receiving fun l => { l with responses := replies 4 }).link.responses.length ∧ State.reset.link.requests = [] := by
  decide +kernel

/-- RefusalChangesNothing: SETTING_READ with a count of 0 is refused with RANGE. -/
theorem witness_RefusalChangesNothing :
    isRequest .settingRead = true ∧ (withReq .settingRead [0, 0] State.reset).Ready ⟨.settingRead, 1, [0, 0]⟩ [] ∧
    (∃ t, exec .settingRead (withReq .settingRead [0, 0] State.reset) = .next t) ∧
    answers .settingRead (withReq .settingRead [0, 0] State.reset) .range [] = true :=
  ⟨rfl, ready _ _ _ rfl (by decide), ⟨_, rfl⟩, by decide +kernel⟩

/-- The statements about requests of no payload, each ready with three responses waiting. -/
theorem witness_requestsWithoutPayload :
    ∀ k ∈ [Kind.deviceInfo, .linkStats, .timeRead, .schedSummary, .journalRewind, .journalStatus, .senseRead, .counterRead,
        .outputRead, .wdStart, .wdStop, .wdStatus, .notifyRead],
      (withReq k [] (receiving fun l => { l with responses := replies 3 })).Ready ⟨k, 1, []⟩ [] :=
  fun k _ => ready k [] _ rfl (by decide)

/-- SettingReadAnswers: the whole of the last run, and the first values outside: a count of 0, of 17, an end past 2BH. -/
theorem witness_SettingReadAnswers :
    (∀ p : List Byte, (withReq .settingRead p State.reset).Ready ⟨.settingRead, 1, p⟩ []) ∧
    (1 ≤ (2 : Byte).toNat ∧ (2 : Byte).toNat ≤ 16 ∧ (0x2A : Byte).toNat + (2 : Byte).toNat - 1 ≤ 0x2B) ∧
    ¬(1 ≤ (0 : Byte).toNat) ∧ ¬((17 : Byte).toNat ≤ 16) ∧ ¬((0x2A : Byte).toNat + (3 : Byte).toNat - 1 ≤ 0x2B) :=
  ⟨fun _ => ready _ _ _ rfl (by decide), by decide, by decide, by decide, by decide⟩

/-- SettingWriteAllOrNothing: the run 1DH, the classes it touches and the settings it leaves; a run of 24H in WATCHING; and
the joined timeouts 0 and 4095. -/
theorem witness_SettingWriteAllOrNothing :
    (let s := withReq .settingWrite [0x1D, 1] (locked ⟨false, false, true⟩ State.reset);
      s.Ready ⟨.settingWrite, 1, [0x1D, 1]⟩ [] ∧ (∃ i, i < 1 ∧ lockClass (0x1D + i) = .outputs) ∧
      s.control.locks.outputs = true) ∧
    (let s := withReq .settingWrite [0x24, 1] (inWd .watching State.reset);
      s.Ready ⟨.settingWrite, 1, [0x24, 1]⟩ [] ∧ (∃ i, i < 1 ∧ lockClass (0x24 + i) = .supervisor) ∧
      s.control.locks.supervisor = false ∧ s.control.locks.outputs = false ∧ s.wd.state ≠ .dormant) ∧
    (let s := withReq .settingWrite [0x1D, 1] State.reset;
      s.Ready ⟨.settingWrite, 1, [0x1D, 1]⟩ [] ∧ ¬(∃ i, i < 1 ∧ lockClass (0x1D + i) = .supervisor) ∧
      s.control.locks.outputs = false ∧
      (∀ i : Fin 44, (s.settings.writeRun 0x1D [1])[i] =
        if 0x1D ≤ i.val ∧ i.val < 0x1D + 1 then ([1] : List Byte).getD (i.val - 0x1D) 0 else s.settings[i])) ∧
    settingInRange 0x1D 1 = true ∧ (Settings.default.writeRun 0x25 [0]).wdTimeout = 0 ∧
    (Settings.default.writeRun 0x25 [0xFF, 0x0F]).wdTimeout = 4095 ∧ settingInRange 0x26 0x10 = false :=
  ⟨⟨ready _ _ _ rfl (by decide), ⟨0, by decide⟩, rfl⟩,
    ⟨ready _ _ _ rfl (by decide), ⟨0, by decide⟩, rfl, rfl, by decide⟩,
    ⟨ready _ _ _ rfl (by decide), fun ⟨i, hi, h⟩ => by
      obtain rfl : i = 0 := by omega
      exact absurd h (by decide), rfl, by decide +kernel⟩,
    by decide, by decide +kernel, by decide +kernel, by decide⟩

/-- LockEngages: the set 7 in WATCHING, the set 2 in DORMANT, and the set 8. -/
theorem witness_LockEngages :
    (let s := withReq .lock [7] (inWd .watching State.reset);
      s.Ready ⟨.lock, 1, [7]⟩ [] ∧ (7 : Byte).toNat ≤ 7 ∧ s.wd.state = .watching) ∧
    (let s := withReq .lock [2] State.reset;
      s.Ready ⟨.lock, 1, [2]⟩ [] ∧ (2 : Byte).getLsbD 1 = true ∧ s.control.locks.supervisor = false ∧ s.wd.state ≠ .watching) ∧
    (let s := withReq .lock [8] State.reset;
      s.Ready ⟨.lock, 1, [8]⟩ [] ∧ 7 < (8 : Byte).toNat ∧ (8 : Byte).getLsbD 1 = false) :=
  ⟨⟨ready _ _ _ rfl (by decide), by decide, rfl⟩, ⟨ready _ _ _ rfl (by decide), by decide, rfl, by decide⟩,
    ready _ _ _ rfl (by decide), by decide, by decide⟩

/-- SettingsStayInRange: the defaults, with a command at the front of the queue. -/
theorem witness_SettingsStayInRange :
    (let s := (withReq .settingWrite [0x1D, 1] State.reset).setPending [.settingWrite];
      s.settings.Wf ∧ ∃ t, step s = .next t) :=
  ⟨⟨by decide +kernel, by decide +kernel, by decide +kernel⟩, _, rfl⟩

/-- TimeSetStepsClock: the lock, the ticks 1024 and the ticks 1023. -/
theorem witness_TimeSetStepsClock :
    (let s := withReq .timeSet (be32 1 ++ be16 0) (locked ⟨true, false, false⟩ State.reset);
      s.Ready ⟨.timeSet, 1, be32 1 ++ be16 0⟩ [] ∧ s.control.locks.clock = true) ∧
    (∀ t : BitVec 16, (withReq .timeSet (be32 1 ++ be16 t) State.reset).Ready ⟨.timeSet, 1, be32 1 ++ be16 t⟩ [] ∧
      (withReq .timeSet (be32 1 ++ be16 t) State.reset).control.locks.clock = false) ∧
    1023 < (1024 : BitVec 16).toNat ∧ (1023 : BitVec 16).toNat ≤ 1023 :=
  ⟨⟨ready _ _ _ rfl (by decide), rfl⟩, fun _ => ⟨ready _ _ _ rfl (by decide), rfl⟩, by decide, by decide⟩

/-- TimeSetShift: a PAUSED entry, and an ARMED RELATIVE one moved below 0.0, above the epoch end, and nowhere. -/
theorem witness_TimeSetShift :
    (let e : Entry := { Entry.free with state := .armed, relative := true };
      ¬(Entry.free.state = .armed ∧ Entry.free.relative = true) ∧ (e.state = .armed ∧ e.relative = true) ∧
      (e.due.toNat : Int) + (-1) < 0 ∧ (2 : Int) ^ 42 - 1 < (e.due.toNat : Int) + 2 ^ 42 ∧
      (0 ≤ (e.due.toNat : Int) + 0 ∧ (e.due.toNat : Int) + 0 ≤ 2 ^ 42 - 1)) := by decide

/-- TimeSlewReplaces, JournalAckRemoves, JournalNoteAppends and CounterRequests: the requests with a payload are ready. -/
theorem witness_requestsWithPayload :
    (∀ v : BitVec 16, (withReq .timeSlew (be16 v) State.reset).Ready ⟨.timeSlew, 1, be16 v⟩ []) ∧
    (∀ v : BitVec 48, (withReq .journalNote (be48 v) State.reset).Ready ⟨.journalNote, 1, be48 v⟩ []) ∧
    (∀ b op : Byte, (withReq .counterControl [b, op] State.reset).Ready ⟨.counterControl, 1, [b, op]⟩ []) ∧
    (∀ (b : Byte) (v : BitVec 16), (withReq .counterLatch (b :: be16 v) State.reset).Ready ⟨.counterLatch, 1, b :: be16 v⟩ []) ∧
    1 < (2 : Byte).toNat ∧ (1 : Fin 2).val = (1 : Byte).toNat ∧ 3 < (4 : Byte).toNat :=
  ⟨fun _ => ready _ _ _ rfl (by decide), fun _ => ready _ _ _ rfl (by decide), fun _ _ => ready _ _ _ rfl (by decide),
    fun _ _ => ready _ _ _ rfl (by decide), by decide, by decide, by decide⟩

/-- BoundaryAdvancesClock, BoundaryRecomputesNint, CrystalEvents and SourceChangeAndEpochEnd: the three operating states; and a
clock at the epoch end, before it, and at .511 with a slew of either sign; and the restore counts 64 and 65 in BACKUP. -/
theorem witness_boundaries :
    (State.reset.control.op = .active ∧ (inOp .held State.reset).control.op = .held ∧
      (inOp .backup State.reset).control.op = .backup) ∧
    (let s := atClock 4294967295 1023 State.reset; s.control.op = .active ∧ s.time.clock = epochEndStamp) ∧
    (let s := atClock 4294967295 1022 State.reset;
      s.control.op = .active ∧ s.time.clock.toNat = 2 ^ 42 - 2 ∧ s.time.epochFlag = false) ∧
    (∀ v : BitVec 16, let s := (atClock 0 511 State.reset).setTime { (atClock 0 511 State.reset).time with slew := v };
      s.control.op = .active ∧ s.time.clock.toNat % 1024 = 511 ∧ s.time.slewHold = false ∧ s.time.slew = v) ∧
    ((-1 : BitVec 16).toInt < 0 ∧ ¬((1 : BitVec 16).toInt < 0)) ∧
    (∀ n : Nat, (reading 0 n (inOp .backup State.reset)).control.op = .backup ∧
      (reading 0 n (inOp .backup State.reset)).control.restoreCount = n) ∧ (64 + 1 < 66 ∧ 66 ≤ 65 + 1) ∧
    (∃ n, State.reset.time.monitor = .notGood n) ∧
    (∀ (d : Option Declaration) (c : ClockSource), let s := State.reset.setTime { State.reset.time with
        monitor := .good, declaration := d, source := c };
      s.control.op = .active ∧ s.time.monitor = .good ∧ s.time.declaration = d ∧ s.time.source = c) :=
  ⟨by decide, by decide, by decide, fun _ => ⟨rfl, (by decide : (stamp 0 511).toNat % 1024 = 511), rfl, rfl⟩,
    by decide, fun _ => ⟨rfl, rfl⟩, by omega, ⟨0, rfl⟩, fun _ _ => ⟨rfl, rfl, rfl, rfl⟩⟩

/-- EpochFlagInvariantKept: a clock one tick before the epoch end, and a boundary. -/
theorem witness_EpochFlagInvariantKept :
    (let s := (atClock 4294967295 1022 State.reset).setPending [.tickBoundary 0 true];
      s.time.FlagWf ∧ ∃ t, step s = .next t) :=
  ⟨⟨fun h => absurd h (by decide), fun h => absurd h (by decide)⟩, _, rfl⟩

/-- An arming of entry 31 with four actions, the shortest period and the least budget, due at the epoch end. -/
def arming : ArmRequest :=
  ⟨31, false, true, true, false, 0xFFFFFFFF, 1023, some 16, some 1, [.notify, .journal 1, .outputPulse 5 true 1, .counterStop 1]⟩

/-- SchedArmSetsEntry: `arming`, on an entry that is ARMED, on a FREE one with the clock INVALID, and with it VALID. -/
theorem witness_SchedArmSetsEntry :
    (∀ s : State, s.control.op = .active → s.link.responses.length < 4 →
      (withReq .schedArm arming.payload s).Ready ⟨.schedArm, 1, arming.payload⟩ []) ∧
    (1 ≤ arming.actions.length ∧ arming.actions.length ≤ 4) ∧ (∀ x ∈ arming.actions, x.Admitted) ∧
    (∀ p, arming.period = some p → 16 ≤ p.toNat) ∧ (∀ b, arming.budget = some b → b ≠ 0 ∧ arming.period ≠ none) ∧
    (∀ clock, arming.due clock ≤ 2 ^ 42 - 1 ∧ arming.due clock = 2 ^ 42 - 1) ∧
    (let s := withReq .schedArm arming.payload (entry 31 (daily 1) State.reset);
      s.control.op = .active ∧ arming.replace = false ∧ s.sched[arming.id].state = .armed) ∧
    (let s := withReq .schedArm arming.payload State.reset;
      s.control.op = .active ∧ s.sched[arming.id].state = .free ∧ arming.relative = false ∧ s.time.valid = false) ∧
    (let s := withReq .schedArm arming.payload (atClock 0 0 State.reset);
      s.control.op = .active ∧ s.sched[arming.id].state = .free ∧ s.time.valid = true) :=
  ⟨fun s h hr => ready _ _ s h hr, by decide, by simp [arming, Action.Admitted], by simp [arming], by simp [arming],
    fun _ => by simp [arming, ArmRequest.due], by decide +kernel, by decide +kernel, by decide +kernel⟩

/-- SchedArmSetsEntry, of any payload: `arming` on an ARMED entry is busy, on a FREE one with the clock INVALID it is untimed, and
with the clock VALID it is neither; and then the rows of RANGE at their boundaries: the id 32, a length one off, no action and
five, an undefined flag bit, the ticks 1024, an offset that passes the epoch end by one, the period 15 and its ticks 1024, a
budget without a period and a budget of 0, and an action that is none. -/
theorem witness_SchedArmSetsEntry_range :
    (∀ (p : List Byte) (s : State), s.control.op = .active → s.link.responses.length < 4 →
      (withReq .schedArm p s).Ready ⟨.schedArm, 1, p⟩ []) ∧
    (∀ x : Action, x.Admitted → x.encode ≠ [0x07, 0, 0, 0]) ∧
    (byteAt arming.payload 0 = 31 ∧ byteAt arming.payload 1 = 0x36 ∧ (byteAt arming.payload 1).getLsbD 3 = false ∧
      (byteAt arming.payload 1).getLsbD 0 = false) ∧
    (entry 31 (daily 1) State.reset).sched[(31 : Fin 32)].state = .armed ∧
    (State.reset.sched[(31 : Fin 32)].state = .free ∧ State.reset.time.valid = false) ∧
    (atClock 0 0 State.reset).time.valid = true ∧
    31 < (byteAt [32] 0).toNat ∧ arming.payload.length = 9 + 5 + 2 + 4 * 4 ∧ 4 < (5 : Byte).toNat ∧
    ((0x40 : Byte).getLsbD 6 = true ∧ (0x80 : Byte).getLsbD 7 = true) ∧ 1023 < (u16At [0x04, 0x00] 0).toNat ∧
    2 ^ 42 - 1 < (atClock 4294967295 1023 State.reset).time.clock.toNat + (0 * 1024 + 1) ∧
    (u24At [0, 0, 0] 0).toNat * 1024 + (u16At [0, 15] 0).toNat < 16 ∧
    ((0x20 : Byte).getLsbD 5 = true ∧ (0x20 : Byte).getLsbD 4 = false) ∧ u16At [0, 0] 0 = 0 :=
  ⟨fun _ s h hr => ready _ _ s h hr, fun x _ => by cases x <;> simp [Action.encode], by decide +kernel⟩

/-- SchedPauseResumeCancel and SchedReadAnswers: ids 0 and 31 and 32, an ARMED, a PAUSED and a FREE entry. -/
theorem witness_schedEntries :
    (∀ (b : Byte) (s : State), s.control.op = .active → s.link.responses.length < 4 →
      (withReq .schedPause [b] s).Ready ⟨.schedPause, 1, [b]⟩ [] ∧ (withReq .schedResume [b] s).Ready ⟨.schedResume, 1, [b]⟩ [] ∧
      (withReq .schedCancel [b] s).Ready ⟨.schedCancel, 1, [b]⟩ [] ∧ (withReq .schedRead [b] s).Ready ⟨.schedRead, 1, [b]⟩ []) ∧
    (∀ (e : EntryState) (b : Byte), let s := withReq .schedPause [b] (entry 31 { daily 1 with state := e } State.reset);
      s.control.op = .active ∧ s.link.responses.length < 4 ∧ s.sched[(31 : Fin 32)].state = e ∧
      s.sched[(31 : Fin 32)].actions.length ≤ 4) ∧
    State.reset.sched[(31 : Fin 32)] = .free ∧ 31 < (32 : Byte).toNat ∧ (31 : Fin 32).val = (31 : Byte).toNat :=
  ⟨fun _ s h hr => ⟨ready _ _ s h hr, ready _ _ s h hr, ready _ _ s h hr, ready _ _ s h hr⟩,
    fun _ _ => ⟨rfl, (by decide : 0 < 4), rfl, (by decide : 2 ≤ 4)⟩, by decide +kernel, by decide, by decide⟩

/-- The entry of the fire statements: due at 5.0, backup-eligible, with one action on O5; and the part at that very clock value. -/
def firing : Entry := { daily 5 with actions := [.outputLevel 5 true], backupEligible := true }

/-- The part with entry 31 due at its clock value. -/
def firingPart : State := entry 31 firing (atClock 5 0 State.reset)

/-- FireCountsAndStamps and FireOutputLevel: an entry due at the very clock value, in ACTIVE and in BACKUP, and one that is not due;
its line with owner HOST and with owner SCHEDULE; and the test of LATE at 1 and 2 ticks, with the mark of an interval of 0. -/
theorem witness_fires :
    (∃ e : Entry, firingPart.sched[(31 : Fin 32)] = e ∧ e.state = .armed ∧ e.due.toNat ≤ firingPart.time.clock.toNat ∧
      e.actions = [.outputLevel 5 true] ∧ e.backupEligible = true) ∧
    State.reset.sched[(31 : Fin 32)].state ≠ .armed ∧
    (∀ op ∈ [OpState.active, .backup], (inOp op firingPart).control.op = op) ∧
    (∃ l : OutLine, firingPart.outputs[(5 : Fin 6)] = l ∧ l.forced = false ∧ l.owner ≠ .schedule) ∧
    (line 5 (fun l => { l with owner := .schedule }) firingPart).outputs[(5 : Fin 6)].owner = .schedule ∧
    (firing.firesLate (stamp 5 1) = false ∧ firing.firesLate (stamp 5 2) = true ∧
      ({ firing with atOnce := true } : Entry).firesLate (stamp 5 2) = false) :=
  have due : firingPart.sched[(31 : Fin 32)] = firing ∧ firing.due.toNat ≤ firingPart.time.clock.toNat := by decide +kernel
  have host : State.reset.outputs[(5 : Fin 6)] = ⟨.host, false, none, false, false⟩ := by decide +kernel
  ⟨⟨_, due.1, rfl, due.2, rfl, rfl⟩, by decide, by decide +kernel, ⟨_, host, rfl, by decide⟩, rfl, by decide +kernel⟩

/-- FireOutputLevel: one entry for each other kind of action, one with a journal action beside another, and a list of four. -/
theorem witness_fireActions :
    (∀ acts ∈ [[Action.outputPulse 5 true 1], [.counterStart 1 true], [.counterStop 1], [.notify], [.journal 1],
        [.outputLevel 0 true, .journal 1], [.journal 1, .outputLevel 5 true, .counterStop 1, .notify]],
      (entry 31 { firing with actions := acts } firingPart).sched[(31 : Fin 32)].actions = acts) ∧
    ∀ u, Action.outputLevel 0 true ≠ .journal u :=
  ⟨by decide +kernel, fun _ h => by cases h⟩

/-- CatchUp: entries of the shortest period: a SKIP entry on time, one behind, and a BURST entry one and 65 periods behind. -/
theorem witness_CatchUp :
    (let e : Entry := { Entry.free with state := .armed, due := stamp 1 0, period := some 16 };
      e.state = .armed ∧ e.period = some 16 ∧ 16 ≤ (16 : Span).toNat ∧ e.budget = none ∧
      e.due.toNat ≤ (stamp 1 0).toNat ∧ e.due.toNat ≤ (stamp 1 16).toNat ∧ e.burst = false ∧
      ({ e with burst := true } : Entry).burst = true ∧ e.due.toNat + (16 : Span).toNat ≤ (stamp 1 16).toNat ∧
      e.due.toNat + (16 : Span).toNat ≤ (stamp 2 16).toNat) := by decide +kernel

/-- CatchUp, without a budget: an entry that keeps up, at the epoch end and before it; and one five periods behind, whose next occurrence
passes the epoch end and does not, and 64 and 65 behind, of either policy. -/
theorem witness_CatchUp_noBudget :
    (∀ burst : Bool,
      let e : Entry := { Entry.free with state := .armed, due := stamp 1 0, period := some 16, burst := burst }
      e.state = .armed ∧ e.period = some 16 ∧ e.budget = none ∧ e.burst = burst ∧ e.due = stamp 1 0) ∧
    2 ^ 42 - 1 < epochEndStamp.toNat + (16 : Span).toNat ∧
    ((stamp 1 0).toNat + (16 : Span).toNat ≤ 2 ^ 42 - 1 ∧ (stamp 1 15).toNat < (stamp 1 0).toNat + (16 : Span).toNat) ∧
    (((stamp 1 80).toNat - (stamp 1 0).toNat) / (16 : Span).toNat = 5 ∧
      (stamp 1 0).toNat + (5 + 1) * (16 : Span).toNat ≤ 2 ^ 42 - 1) ∧
    ((epochEndStamp.toNat - (epochEndStamp - 80).toNat) / (16 : Span).toNat = 5 ∧
      (epochEndStamp - 80).toNat + (16 : Span).toNat ≤ epochEndStamp.toNat ∧
      2 ^ 42 - 1 < (epochEndStamp - 80).toNat + (5 + 1) * (16 : Span).toNat) ∧
    ((stamp 2 0).toNat - (stamp 1 0).toNat) / (16 : Span).toNat = 64 ∧
    ((stamp 2 16).toNat - (stamp 1 0).toNat) / (16 : Span).toNat = 65 :=
  ⟨fun _ => ⟨rfl, rfl, rfl, rfl, rfl⟩, by decide +kernel⟩

/-- CatchUp, with a budget: none left; one that keeps up, at the epoch end and before it; a SKIP entry five periods behind with a
budget of 5 and of 6, and one that would pass the epoch end; and a BURST entry 64 and 65 periods behind with a budget of 1 and 2. -/
theorem witness_CatchUp_budget :
    (let e : Entry := { Entry.free with state := .armed, due := stamp 1 0, period := some 16, budget := some 5 };
      ({ e with period := none } : Entry).period = none ∧ ({ e with budget := some 0 } : Entry).budget = some 0 ∧
      (e.state = .armed ∧ e.period = some 16 ∧ 16 ≤ (16 : Span).toNat ∧ e.budget = some 5 ∧ (5 : BitVec 16) ≠ 0) ∧
      2 ^ 42 - 1 < epochEndStamp.toNat + (16 : Span).toNat ∧
      (e.due.toNat + (16 : Span).toNat ≤ 2 ^ 42 - 1 ∧ (stamp 1 15).toNat < e.due.toNat + (16 : Span).toNat) ∧
      (((stamp 1 80).toNat - e.due.toNat) / (16 : Span).toNat = 5 ∧ (5 : BitVec 16).toNat ≤ 5 ∧ 5 < (6 : BitVec 16).toNat ∧
        e.due.toNat + (5 + 1) * (16 : Span).toNat ≤ 2 ^ 42 - 1) ∧
      (let f : Entry := { e with due := epochEndStamp - 80 };
        (epochEndStamp.toNat - f.due.toNat) / (16 : Span).toNat = 5 ∧
        2 ^ 42 - 1 < f.due.toNat + (5 + 1) * (16 : Span).toNat) ∧
      ((stamp 2 0).toNat - e.due.toNat) / (16 : Span).toNat = 64 ∧
      (((stamp 2 16).toNat - e.due.toNat) / (16 : Span).toNat = 65 ∧ (1 : BitVec 16).toNat ≤ 65 - 64 ∧
        65 - 64 < (2 : BitVec 16).toNat)) := by decide +kernel

/-- ActionsRoundTrip: one admitted action of each kind, and four bytes that decode. -/
theorem witness_ActionsRoundTrip :
    (∀ a ∈ [Action.journal 0xFFFF, .notify, .outputLevel 5 true, .outputPulse 5 true 1, .counterStart 1 true, .counterStop 1],
      a.Admitted) ∧ decodeAction 0x04 0x15 0 1 = some (.outputPulse 5 true 1) :=
  ⟨by simp [Action.Admitted], by decide⟩

/-- JournalPullDelivers: the maxima 0, 1, 3 and 4. -/
theorem witness_JournalPullDelivers :
    (∀ b : Byte, (withReq .journalPull [b] State.reset).Ready ⟨.journalPull, 1, [b]⟩ []) ∧
    (0 : Byte).toNat = 0 ∧ 3 < (4 : Byte).toNat ∧ 1 ≤ (1 : Byte).toNat ∧ (3 : Byte).toNat ≤ 3 :=
  ⟨fun _ => ready _ _ _ rfl (by decide), by decide, by decide, by decide, by decide⟩

/-- JournalAckRemoves: the head 40 and the cursor 43, with 42 (the last of the span), 39 (which precedes it) and 43. -/
theorem witness_JournalAckRemoves :
    (let j := noteJournal 40 10 3;
      (∀ x : BitVec 16, (withReq .journalAck (be16 x) (State.reset.setJournal j)).Ready ⟨.journalAck, 1, be16 x⟩ []) ∧
      j.headSeq = 40 ∧ j.cursorSeq = 43 ∧ ((43 : BitVec 16) - 40).toNat ≤ 32767 ∧
      ((42 : BitVec 16) - 40).toNat < ((43 : BitVec 16) - 40).toNat ∧
      (¬((39 : BitVec 16) - 40).toNat < ((43 : BitVec 16) - 40).toNat ∧ 1 ≤ ((40 : BitVec 16) - 39).toNat ∧
        ((40 : BitVec 16) - 39).toNat ≤ 32767) ∧
      (¬((43 : BitVec 16) - 40).toNat < ((43 : BitVec 16) - 40).toNat ∧ ¬((40 : BitVec 16) - 43).toNat ≤ 32767)) :=
  ⟨fun _ => ready _ _ _ rfl (by decide), by decide, by decide, by decide, by decide, by decide, by decide⟩

/-- JournalNoteAppends: 239 general records, and 240 of them behind an open LOSS record. -/
theorem witness_JournalNoteAppends :
    (let s := withReq .journalNote (be48 7) (State.reset.setJournal (noteJournal 1 239 0));
      s.Ready ⟨.journalNote, 1, be48 7⟩ [] ∧ s.journal.used .general < 240 ∧
      ∀ r ∈ s.journal.records.head?, r.seq ≠ s.journal.nextSeq + 1 - 32768) ∧
    (let s := withReq .journalNote (be48 7) (State.reset.setJournal
        ⟨(noteJournal 1 240 0).records ++ [⟨241, .loss 1 0, 0, false, false, .none, true⟩], 0, 242⟩);
      s.Ready ⟨.journalNote, 1, be48 7⟩ [] ∧ 240 ≤ s.journal.used .general ∧ s.settings.keepNewest = false ∧
      ∃ r ∈ s.journal.records, r.opened = true) :=
  ⟨⟨ready _ _ _ rfl (by decide), by decide +kernel, by decide +kernel⟩,
    ready _ _ _ rfl (by decide), by decide +kernel, by decide +kernel, by decide +kernel⟩

/-- JournalNoteAppends, its other clauses: the general class full with no LOSS record open, under each policy, with the system class
full and with room in it; the same with a LOSS record open; and an aged head that is the open LOSS record, that has it behind
it, and that has none. -/
theorem witness_JournalNoteAppends_losses :
    (let full := (noteJournal 1 240 0).records;
      let system := (List.range 16).map fun i => (⟨BitVec.ofNat 16 (300 + i), .powerDown, 0, false, false, .none, false⟩ : Record);
      let opened : Record := ⟨400, .loss 1 0, 0, false, false, .none, true⟩;
      let q : BitVec 16 := 500;
      ((⟨full, 0, q⟩ : Journal).used .general = 240 ∧ (⟨full, 0, q⟩ : Journal).used .system = 0 ∧
        (⟨full ++ system, 0, q⟩ : Journal).used .general = 240 ∧ (⟨full ++ system, 0, q⟩ : Journal).used .system = 16) ∧
      (∀ x ∈ full ++ system, x.opened = false ∧ x.seq ≠ q + 1 - 32768 ∧ x.seq ≠ q + 2 - 32768) ∧
      (∀ x ∈ full, x.body.recordClass = .general) ∧ (∀ x ∈ system, x.body.recordClass = .system) ∧
      (State.reset.settings.keepNewest = false ∧ (cfg 0x22 1 State.reset).settings.keepNewest = true) ∧
      ((⟨opened :: full, 0, q⟩ : Journal).used .general = 240 ∧ opened.opened = true ∧ opened.seq ≠ q + 1 - 32768) ∧
      (let aged : Record := ⟨q + 1 - 32768, .loss 1 0, 0, false, false, .none, true⟩;
        aged.seq = q + 1 - 32768 ∧ aged.opened = true ∧ (⟨[aged, noteRecord 1], 0, q⟩ : Journal).used .general < 240 ∧
        ∀ y ∈ [noteRecord 1], y.seq ≠ q + 2 - 32768) ∧
      (let aged : Record := ⟨q + 1 - 32768, .powerDown, 0, false, false, .none, false⟩;
        aged.opened = false ∧ ∀ y ∈ [opened, noteRecord 1], y.seq ≠ q + 1 - 32768 ∧ y.seq ≠ q + 2 - 32768)) ∧
    (Body.powerDown.recordClass = .system ∧ Config.systemQuota = 16) := by decide +kernel

/-- JournalNoteAppends, the clauses with an eviction of the system class: both classes full, with the records that are evicted, and an
aged head before sixteen system records. -/
theorem witness_JournalNoteAppends_evictions :
    (let full := (noteJournal 1 240 0).records
      let system := (List.range 16).map fun i => (⟨BitVec.ofNat 16 (300 + i), .powerDown, 0, false, false, .none, false⟩ : Record)
      (∃ x post, full ++ system = full ++ x :: post ∧ x.body.recordClass = .system) ∧
      (∃ y post, full ++ system.drop 1 = [] ++ y :: post ∧ y.body.recordClass = .general) ∧
      (⟨⟨500 + 1 - 32768, .powerDown, 0, false, false, .none, false⟩ :: system, 0, 500⟩ : Journal).used .general < 240 ∧
      16 ≤ system.countP (fun y => y.body.recordClass = .system) ∧
      ∃ x post, system = [] ++ x :: post ∧ x.body.recordClass = .system) :=
  ⟨⟨_, _, rfl, by decide⟩, ⟨_, _, rfl, by decide⟩, by decide +kernel, by decide +kernel, _, _, rfl, by decide⟩

/-- JournalInvariantKept: the cursor at an open LOSS record, both classes in use, with a note at the head of the queue. -/
theorem witness_JournalInvariantKept :
    (let s := (withReq .journalNote (be48 0) (State.reset.setJournal
        ⟨[noteRecord 1, ⟨2, .loss 1 0, 0, false, false, .none, true⟩], 1, 3⟩)).setPending [.journalNote];
      s.journal.Wf ∧ ∃ t, step s = .next t) :=
  ⟨⟨by decide, by decide, by decide, by decide, by decide, by decide⟩, _, rfl⟩

/-- RateWindowCloses: uptime 1024, without suppressed edges, with some on S5 alone, and with some on S5 and S7. -/
theorem witness_RateWindowCloses :
    ((1024 : BitVec 32).toNat % 1024 = 0) ∧ (∀ n : Fin 8, State.reset.sense[n].windowSuppressed = 0) ∧
    (let s := sense 5 (fun l => { l with windowEvents := 11, windowSuppressed := 7 }) State.reset;
      s.time.uptime.toNat % 1024 = 0 ∧ s.sense[(5 : Fin 8)].windowSuppressed ≠ 0 ∧
      (∀ m : Fin 8, m ≠ 5 → s.sense[m].windowSuppressed = 0) ∧
      (sense 7 (fun l => { l with windowSuppressed := 1 }) s).sense[(7 : Fin 8)].windowSuppressed ≠ 0 ∧
      (sense 7 (fun l => { l with windowSuppressed := 1 }) s).sense[(5 : Fin 8)].windowSuppressed ≠ 0) := by decide +kernel

/-- ConfirmedChangeJudged: a line with F = 2 and two samples behind it, three, one, and a run of the other level, one with F = 0
and none, a backup-watched one in BACKUP; each edge setting; the counts on either side of a rate limit of 4; and the two reasons for a restart. -/
theorem witness_ConfirmedChangeJudged :
    (let s := cfg 0x17 4 (cfg 0x07 0x0F (sense 7 (fun _ => ⟨false, false, some true, 2, false, 4, 0, true⟩) State.reset));
      s.settings.senseEdgeMode 7 = true ∧ s.control.op = .active ∧ s.sense[(7 : Fin 8)].restart = false ∧
      true = (!s.sense[(7 : Fin 8)].filtered) ∧ s.sense[(7 : Fin 8)].candidate = some true ∧
      s.sense[(7 : Fin 8)].stable = (s.settings.senseFilter 7).toNat ∧ s.settings.senseEdges 7 = .both ∧
      (cfg 0x07 0x01 s).settings.senseEdges 7 = .rise ∧ (cfg 0x07 0x03 s).settings.senseEdges 7 = .fall ∧
      (cfg 0x07 0x11 s).settings.senseWatch 7 = true ∧
      ¬(s.sense[(7 : Fin 8)].windowEvents - s.sense[(7 : Fin 8)].windowSuppressed < (s.settings.senseRate 7).toNat) ∧
      3 - 0 < (s.settings.senseRate 7).toNat ∧ (State.reset.settings.senseRate 7).toNat = 0 ∧
      ((cfg 0x0F 0 s).settings.senseFilter 7).toNat = 0 ∧ s.sense[(7 : Fin 8)].lastEdge = true ∧
      (∀ k ∈ [1, 3], (sense 7 (fun l => { l with stable := k }) s).sense[(7 : Fin 8)].stable = k) ∧
      (1 < (s.settings.senseFilter 7).toNat ∧ (s.settings.senseFilter 7).toNat ≤ 3) ∧
      (sense 7 (fun l => { l with candidate := none }) s).sense[(7 : Fin 8)].candidate ≠ some true ∧
      (sense 7 (fun l => { l with restart := true }) s).sense[(7 : Fin 8)].restart = true ∧
      (sense 7 (fun l => { l with lastEdge := false }) s).sense[(7 : Fin 8)].lastEdge = false) := by decide +kernel

/-- RestrictedOperationFreezes: HELD, and BACKUP with a restore count of 64 or a low supply; a line that is OFF and one that is not
backup-watched. -/
theorem witness_RestrictedOperationFreezes :
    (inOp .held State.reset).control.op = .held ∧
    (let s := (inOp .backup State.reset).setControl { (inOp .backup State.reset).control with restoreCount := 64 };
      s.control.op = .backup ∧ s.control.restoreCount < 65) ∧
    State.reset.settings.senseEdgeMode 0 = false ∧ (cfg 0x00 0x01 State.reset).settings.senseWatch 0 = false := by
  decide +kernel

/-- ExpiryEffects: a RUNNING counter at 1, in ACTIVE. -/
theorem witness_ExpiryEffects :
    (blinkingPart 1).control.op = .active ∧ (blinkingPart 1).counters[(1 : Fin 2)].running = true ∧
    (blinkingPart 1).counters[(1 : Fin 2)].value = 1 := by decide +kernel

/-- CounterInvariantKept: counters at 1 and at 65536, and a boundary. -/
theorem witness_CounterInvariantKept :
    (let s := (State.reset.setCounters #v[⟨true, 1, 0, 0⟩, ⟨true, 65536, 0, 0⟩]).setPending [.tickBoundary 0 true];
      (∀ n : Fin 2, s.counters[n].Wf) ∧ ∃ t, step s = .next t) :=
  ⟨fun n => by unfold Counter.Wf; revert n; decide +kernel, _, rfl⟩

/-- OutputRequests: masks of no line and of all; a forced line, one of another owner, the masks 63 and 64, and the line 6, the
level 2, the width 0 and the owner 4. -/
theorem witness_OutputRequests :
    (∀ (p : List Byte) (s : State), s.control.op = .active → s.link.responses.length < 4 →
      (withReq .outputWrite p s).Ready ⟨.outputWrite, 1, p⟩ [] ∧ (withReq .outputPulse p s).Ready ⟨.outputPulse, 1, p⟩ [] ∧
      (withReq .outputClaim p s).Ready ⟨.outputClaim, 1, p⟩ []) ∧
    (let s := withReq .outputWrite [0x20, 0] (line 5 (fun l => { l with forced := true }) State.reset);
      s.control.op = .active ∧ s.link.responses.length < 4 ∧
      ∃ n : Fin 6, (0x20 : Byte).getLsbD n.val = true ∧ s.outputs[n].forced = true) ∧
    (let s := withReq .outputWrite [0x20, 0] (line 5 (fun l => { l with owner := .schedule }) State.reset);
      s.control.op = .active ∧ s.link.responses.length < 4 ∧
      (∀ n : Fin 6, (0x20 : Byte).getLsbD n.val = true → s.outputs[n].forced = false) ∧
      ∃ n : Fin 6, (0x20 : Byte).getLsbD n.val = true ∧ s.outputs[n].owner ≠ .host) ∧
    (let s := withReq .outputWrite [0x3F, 0] State.reset;
      s.control.op = .active ∧ s.link.responses.length < 4 ∧
      (∀ n : Fin 6, (0x3F : Byte).getLsbD n.val = true → s.outputs[n].forced = false) ∧
      (∀ n : Fin 6, (0x3F : Byte).getLsbD n.val = true → s.outputs[n].owner = .host) ∧
      (0x3F : Byte).toNat < 64 ∧ 64 ≤ (0x40 : Byte).toNat ∧
      ∀ n : Fin 6, n.val = (5 : Byte).toNat → s.outputs[n].forced = false ∧ s.outputs[n].owner = .host) ∧ (1 : BitVec 16) ≠ 0 ∧
    5 < (6 : Byte).toNat ∧ 1 < (2 : Byte).toNat ∧ 3 < (4 : Byte).toNat ∧ (∀ n : Fin 6, n.val ≠ (6 : Byte).toNat) :=
  ⟨fun _ s h hr => ⟨ready _ _ s h hr, ready _ _ s h hr, ready _ _ s h hr⟩,
    by decide +kernel, by decide +kernel, by decide +kernel, by decide, by decide, by decide, by decide, by decide⟩

/-- OutputReadAndRevert: a pulse of one tick, one of two, and none. -/
theorem witness_OutputReadAndRevert :
    (line 5 (fun l => { l with pulse := some ⟨1, true⟩ }) State.reset).outputs[(5 : Fin 6)].pulse = some ⟨1, true⟩ ∧
    State.reset.outputs[(5 : Fin 6)].fresh = false ∧ 1 < (2 : BitVec 16).toNat ∧
    State.reset.outputs[(5 : Fin 6)].pulse = none := by decide +kernel

/-- ForcingInvariantKept: HOLDING, with every line forced, and the release of a pin reset. -/
theorem witness_ForcingInvariantKept :
    (let s := ((inOp .held (inWd .holding State.reset)).reforce).setPending [.release];
      s.LinesWf ∧ ∃ t, step s = .next t) :=
  ⟨by unfold State.LinesWf State.Forces; decide +kernel, _, rfl⟩

/-- WatchdogStartStopStatus: each of its states, a window equal to the timeout and one below it, and the lock. -/
theorem witness_WatchdogStartStopStatus :
    (∀ (k : Kind) (s : State), s.control.op = .active → s.link.responses.length < 4 → (withReq k [] s).Ready ⟨k, 1, []⟩ []) ∧
    (∀ w : WdState, (withReq .wdStart [] (inWd w State.reset)).wd.state = w ∧
      (withReq .wdStop [] (inWd w State.reset)).control.locks.supervisor = false ∧
      (withReq .wdStop [] (locked ⟨false, true, false⟩ (inWd w State.reset))).control.locks.supervisor = true) ∧
    (let s := withReq .wdStart [] (cfg 0x24 160 State.reset);
      s.control.op = .active ∧ s.wd.state = .dormant ∧ s.settings.wdTimeout ≤ s.settings.wdWindow) ∧
    (let s := withReq .wdStart [] (cfg 0x24 159 State.reset);
      s.control.op = .active ∧ s.wd.state = .dormant ∧ s.settings.wdWindow < s.settings.wdTimeout) :=
  ⟨fun k s h hr => ready k _ s h hr, fun _ => ⟨rfl, rfl, rfl⟩, by decide +kernel, by decide +kernel⟩

/-- WatchdogFeed: ready with a token, right and wrong; elapsed at the window and one below; and each group of states. -/
theorem witness_WatchdogFeed :
    (∀ (b : Byte) (s : State), s.control.op = .active → s.link.responses.length < 4 →
      (withReq .wdFeed [b] s).Ready ⟨.wdFeed, 1, [b]⟩ []) ∧
    (let s := withReq .wdFeed [0] (cfg 0x24 10 (State.reset.setWd { State.reset.wd with state := .watching, elapsed := 10 }));
      s.control.op = .active ∧ s.wd.state = .watching ∧ (0 : Byte) = s.wd.token ∧ (1 : Byte) ≠ s.wd.token ∧
      s.settings.wdWindow ≤ s.wd.elapsed.toNat) ∧
    (let s := withReq .wdFeed [0] (cfg 0x24 10 (State.reset.setWd { State.reset.wd with state := .watching, elapsed := 9 }));
      s.control.op = .active ∧ s.wd.state = .watching ∧ (0 : Byte) = s.wd.token ∧ s.wd.elapsed.toNat < s.settings.wdWindow) ∧
    (∀ w : WdState, let s := withReq .wdFeed [0] (inWd w State.reset);
      s.control.op = .active ∧ s.wd.state = w ∧ (0 : Byte) = s.wd.token ∧ (1 : Byte) ≠ s.wd.token) :=
  ⟨fun _ s h hr => ready _ _ s h hr, by decide +kernel, by decide +kernel, fun _ => ⟨rfl, rfl, rfl, (by decide : (1 : Byte) ≠ 0)⟩⟩

/-- TimedTransitions: one beat before each: 159 beats of 160, a silence of 254 of 255, and a timer of 1. -/
theorem witness_TimedTransitions :
    (let s := State.reset.setWd { State.reset.wd with state := .watching, elapsed := 159 };
      s.control.op = .active ∧ s.wd.state = .watching ∧ s.wd.elapsed.toNat + 1 = s.settings.wdTimeout ∧
      s.settings.wdTimeout ≤ 4095) ∧
    (let s := cfg 0x2B 255 (State.reset.setWd { State.reset.wd with state := .watching, silence := 254 });
      s.control.op = .active ∧ s.wd.state = .watching ∧ s.wd.elapsed.toNat + 1 < s.settings.wdTimeout ∧
      s.settings.wdTimeout ≤ 4095 ∧ s.settings.wdSilence ≠ 0 ∧ s.settings.wdSilence ≤ s.wd.silence.toNat + 1) ∧
    (∀ w : WdState, let s := State.reset.setWd { State.reset.wd with state := w, timer := 1 };
      s.control.op = .active ∧ s.wd.state = w ∧ s.wd.timer = 1) :=
  ⟨by decide +kernel, by decide +kernel, fun _ => ⟨rfl, rfl, rfl⟩⟩

/-- SupervisorInvariantKept: REARM with seven host resets and a timer of 1, and BOOT. -/
theorem witness_SupervisorInvariantKept :
    (let s := (State.reset.setWd { State.reset.wd with state := .rearm, timer := 1, goodRun := 16, hostResets := 7 }).setPending
        [.boot];
      s.settings.Wf ∧ s.WdWf ∧ ∃ t, step s = .next t) :=
  ⟨⟨by decide +kernel, by decide +kernel, by decide +kernel⟩, by unfold State.WdWf; decide +kernel, _, rfl⟩

/-- NotifyRequests: the masks 4095 and 4096, the operations 0 to 2, and the causes 11 and 12. -/
theorem witness_NotifyRequests :
    (∀ (m : BitVec 16) (op : Byte), (withReq .notifyEnable (be16 m ++ [op]) State.reset).Ready
      ⟨.notifyEnable, 1, be16 m ++ [op]⟩ []) ∧
    1 < (2 : Byte).toNat ∧
    (∀ pairs : List (Byte × Byte), (withReq .notifyAck (pairs.flatMap fun x => [x.1, x.2]) State.reset).Ready
      ⟨.notifyAck, 1, pairs.flatMap fun x => [x.1, x.2]⟩ []) ∧
    (4095 : BitVec 16).toNat < 4096 ∧ 4096 ≤ (4096 : BitVec 16).toNat ∧
    (∃ x ∈ ([(12, 0)] : List (Byte × Byte)), 11 < x.1.toNat) ∧
    (∀ x ∈ ([(11, 0), (0, 0)] : List (Byte × Byte)), x.1.toNat ≤ 11) :=
  ⟨fun _ _ => ready _ _ _ rfl (by decide), by decide, fun _ => ready _ _ _ rfl (by decide),
    by decide, by decide, ⟨_, List.mem_singleton_self _, by decide⟩, by simp⟩

/-- RestrictedEntries, ReleaseEffects and ResetsAndReturnComplete: ACTIVE, HELD and BACKUP; the two scopes of DEVICE_RESET; a
supervisor in and out of HOLDING and SUSPENDED; the hold mark clear and set, with nRST recognised low and high; the scope 2; and
the conditions in which ENTER_BACKUP changes no operating state. -/
theorem witness_operatingStates :
    State.reset.control.op = .active ∧ (inOp .held State.reset).control.op = .held ∧
    (inOp .backup State.reset).control.op = .backup ∧ (inOp .backup State.reset).control.holdMark = false ∧
    (∃ t, exec .release (inOp .held State.reset) = .next t) ∧
    (∃ t, exec .deviceResetFull (withReq .deviceReset [1] State.reset) = .next t) ∧
    (∀ b : Byte, (withReq .deviceReset [b] State.reset).Ready ⟨.deviceReset, 1, [b]⟩ []) ∧
    (inWd .holding State.reset).wd.state = .holding ∧ State.reset.wd.state ≠ .holding ∧
    (inWd .suspended State.reset).wd.state = .suspended ∧
    (∀ (op : OpState) (mark high : Bool),
      let s := State.reset.setControl
        { State.reset.control with op := op, holdMark := mark, nrst := ⟨high, 0, high⟩ }
      s.control.op = op ∧ s.control.holdMark = mark ∧ s.control.nrst.recognised = high) ∧ 1 < (2 : Byte).toNat ∧
    (inWd .holding (inOp .backup State.reset)).Forces 0 ∧ ¬(inOp .backup State.reset).Forces 0 :=
  ⟨rfl, rfl, rfl, rfl, ⟨_, rfl⟩, ⟨_, rfl⟩, fun _ => ready _ _ _ rfl (by decide), rfl, by decide, rfl,
    fun _ _ _ => ⟨rfl, rfl, rfl⟩, by decide, .inl rfl, by unfold State.Forces; decide⟩

/-- SuppliesAndNrst: no supply, the power-on hold, BACKUP, a second low reading in ACTIVE, a second high one in HELD, and the readings
there that recognise nothing. -/
theorem witness_SuppliesAndNrst :
    (inOp .unpowered State.reset).control.op = .unpowered ∧ (inOp .powerOnHold State.reset).control.op = .powerOnHold ∧
    (let s := State.reset.setControl { State.reset.control with nrst := ⟨false, 15, true⟩ };
      s.control.op = .active ∧ s.control.nrst.recognised = true ∧ s.control.nrst.last = false) ∧
    (∀ last : Bool,
      let s := (inOp .held State.reset).setControl { (inOp .held State.reset).control with nrst := ⟨last, 15, false⟩ }
      s.control.op = .held ∧ s.control.nrst.recognised = false ∧ s.control.nrst.last = last) :=
  ⟨rfl, rfl, ⟨rfl, rfl, rfl⟩, fun _ => ⟨rfl, rfl, rfl⟩⟩

end Sys2Proof.Tests
end

section
namespace Sys2Proof.Machine

-- One theorem after another, as in the tests: a thread for each proof takes more memory than the check gives.
set_option Elab.async false

/-! # The executor: every request row is a `perform` of its kind's body -/

/-- Every command that performs a request is the executor's `perform` with the body that the part's own running uses for that
kind and selector (R26, R33). -/
theorem exec_request {i : Instr} (h : isRequest i = true) :
    ∃ (accepts : Request → Bool) (k : Kind) (selector : List Byte),
      ∀ s, exec i s = .next (s.perform accepts (requestBody k selector)) := by
  cases i with
  | deviceInfo => exact ⟨_, .deviceInfo, [], fun _ => rfl⟩
  | deviceResetLink => exact ⟨_, .deviceReset, [0], fun _ => rfl⟩
  | deviceResetFull => exact ⟨_, .deviceReset, [1], fun _ => rfl⟩
  | settingRead => exact ⟨_, .settingRead, [], fun _ => rfl⟩
  | settingWrite => exact ⟨_, .settingWrite, [], fun _ => rfl⟩
  | lock => exact ⟨_, .lock, [], fun _ => rfl⟩
  | linkStats => exact ⟨_, .linkStats, [], fun _ => rfl⟩
  | timeRead => exact ⟨_, .timeRead, [], fun _ => rfl⟩
  | timeSet => exact ⟨_, .timeSet, [], fun _ => rfl⟩
  | timeSlew => exact ⟨_, .timeSlew, [], fun _ => rfl⟩
  | schedArm => exact ⟨_, .schedArm, [], fun _ => rfl⟩
  | schedPause => exact ⟨_, .schedPause, [], fun _ => rfl⟩
  | schedResume => exact ⟨_, .schedResume, [], fun _ => rfl⟩
  | schedCancel => exact ⟨_, .schedCancel, [], fun _ => rfl⟩
  | schedRead => exact ⟨_, .schedRead, [], fun _ => rfl⟩
  | schedSummary => exact ⟨_, .schedSummary, [], fun _ => rfl⟩
  | journalPull => exact ⟨_, .journalPull, [], fun _ => rfl⟩
  | journalAck => exact ⟨_, .journalAck, [], fun _ => rfl⟩
  | journalRewind => exact ⟨_, .journalRewind, [], fun _ => rfl⟩
  | journalNote => exact ⟨_, .journalNote, [], fun _ => rfl⟩
  | journalStatus => exact ⟨_, .journalStatus, [], fun _ => rfl⟩
  | senseRead => exact ⟨_, .senseRead, [], fun _ => rfl⟩
  | counterStart => exact ⟨_, .counterControl, [0, 0], fun _ => rfl⟩
  | counterStartForce => exact ⟨_, .counterControl, [0, 1], fun _ => rfl⟩
  | counterStop => exact ⟨_, .counterControl, [0, 2], fun _ => rfl⟩
  | counterLoad => exact ⟨_, .counterControl, [0, 3], fun _ => rfl⟩
  | counterLatch => exact ⟨_, .counterLatch, [], fun _ => rfl⟩
  | counterRead => exact ⟨_, .counterRead, [], fun _ => rfl⟩
  | outputWrite => exact ⟨_, .outputWrite, [], fun _ => rfl⟩
  | outputPulse => exact ⟨_, .outputPulse, [], fun _ => rfl⟩
  | outputClaim => exact ⟨_, .outputClaim, [], fun _ => rfl⟩
  | outputRead => exact ⟨_, .outputRead, [], fun _ => rfl⟩
  | wdStart => exact ⟨_, .wdStart, [], fun _ => rfl⟩
  | wdFeed => exact ⟨_, .wdFeed, [], fun _ => rfl⟩
  | wdStop => exact ⟨_, .wdStop, [], fun _ => rfl⟩
  | wdStatus => exact ⟨_, .wdStatus, [], fun _ => rfl⟩
  | notifyEnableSet => exact ⟨_, .notifyEnable, [0, 0, 0], fun _ => rfl⟩
  | notifyEnableClear => exact ⟨_, .notifyEnable, [0, 0, 1], fun _ => rfl⟩
  | notifyAck => exact ⟨_, .notifyAck, [], fun _ => rfl⟩
  | notifyRead => exact ⟨_, .notifyRead, [], fun _ => rfl⟩
  | _ => exact absurd h Bool.false_ne_true

/-- Settles O10: every request command is a `perform`, and `perform` waits in each of the three cases (R17, R18). -/
theorem requestsWait : Obligations.RequestsWait := by
  intro i s hi hwait
  obtain ⟨accepts, k, selector, hexec⟩ := exec_request hi
  rw [hexec, State.perform_wait hwait]

/-! # The link's transaction and the serial formats -/

/-! ## The status byte (R6) -/

/-- A flag as a byte is its bit 0. -/
theorem getElem_bit (b : Bool) (i : Nat) (h : i < 8) : (bit b)[i] = (decide (i = 0) && b) := by
  cases b <;> simp [bit]

/-- The supervisor asks for attention in WARNED and REARM (R6). -/
theorem Supervisor.attention_eq (w : Supervisor) : w.attention = decide (w.state = .warned ∨ w.state = .rearm) := by
  simp [Supervisor.attention, Bool.beq_eq_decide_eq]

/-- The boundaries come from the RC oscillator while the source is not XTAL (R55, R64). -/
theorem Timebase.onRc_eq (t : Timebase) : t.onRc = decide (t.source ≠ .xtal) := by
  simp [Timebase.onRc, bne, Bool.beq_eq_decide_eq]

/-- Records are undelivered while the cursor is not at the tail (R95). -/
theorem Journal.undelivered_ne_zero (j : Journal) : (j.undelivered != 0) = decide (j.cursor < j.records.length) := by
  rw [Journal.undelivered, Bool.eq_iff_iff, bne_iff_ne, decide_eq_true_iff]
  omega

/-- Settles O3: each shifted flag shows in its own bit and nowhere else. -/
theorem linkStatusByte : Obligations.LinkStatusByte := by
  intro s
  simp [State.statusByte, getElem_bit, Supervisor.attention_eq, Timebase.onRc_eq, Journal.undelivered_ne_zero]
  rfl

/-! ## CRC-8 (R5, R8) -/

/-- The CRC register as a receiver shifts it, with the bit that is moved out read from the register's top (R8). -/
theorem crcShift_eq (r : Byte) : crcShift r = if r.getLsbD 7 then (r <<< 1) ^^^ 0x07 else r <<< 1 := by
  rw [crcShift, BitVec.msb_eq_getLsbD_last]

/-- The CRC register after some of its eight shifts (R8). -/
def crcRegister (r : Byte) (shifts : Nat) : Byte := crcShift^[shifts] r

/-- One more shift of the register. -/
theorem crcRegister_succ (r : Byte) (i : Nat) : crcRegister r (i + 1) = crcShift (crcRegister r i) :=
  Function.iterate_succ_apply' crcShift i r

/-- The CRC-8 over a whole up-frame, its CRC byte included, is 0 (R5, R8). -/
theorem crc8_upFrame (s : State) : crc8 s.upFrame = 0 := by
  rw [State.upFrame, crc8_append, crcByte_self]

/-- An up-frame is five bytes and the payload of the response it shows (R5). -/
theorem length_upFrame (s : State) :
    s.upFrame.length = 5 + (match s.link.responses with | [] => 0 | r :: _ => r.payload.length) := by
  rw [State.upFrame, State.upFrameBody]
  cases s.link.responses with
  | nil => rfl
  | cons r rest =>
    simp only [List.length_append, List.length_cons, List.length_nil]
    omega

/-- Settles O5: the register of one byte is the run of its eight shifts. -/
theorem upFrameCrcChecks : Obligations.UpFrameCrcChecks := by
  refine ⟨rfl, fun bytes b => ⟨crcRegister (crc8 bytes ^^^ b), rfl, fun i _ => ?_, crc8_append bytes b⟩,
    fun s => ⟨crc8_upFrame s, length_upFrame s⟩⟩
  rw [crcRegister_succ, crcShift_eq]

/-! ## The edges of nCS (R3, R4) -/

/-- Settles O4: the edges by the transaction state, and the bit of SDO through its byte. -/
theorem transactionEdges : Obligations.TransactionEdges := by
  intro s bits
  refine ⟨fun htxn hop => ⟨s.upFrameBody, rfl, ?_⟩, fun htxn hop => ?_, fun htxn => ?_, fun htxn => ?_, fun htxn => ?_,
    fun htxn hrx hlen => ?_, fun i => ?_⟩
  · show execNcsFall s = _
    simp [execNcsFall, State.ncsFall, htxn, hop, State.upFrame, State.setLink]
  · show execNcsFall s = _
    simp [execNcsFall, State.ncsFall, htxn, hop, State.setLink]
  · show execNcsFall s = _
    unfold execNcsFall State.ncsFall
    split
    · contradiction
    · rfl
    · rfl
  · show execNcsRise bits s = _
    simp [execNcsRise, State.ncsRise, htxn]
  · show execNcsRise bits s = _
    simp [execNcsRise, State.ncsRise, htxn, State.setLink]
  · show execNcsRise bits s = _
    simp [execNcsRise, State.ncsRise, htxn, wholeBytes_short hlen, hrx, State.setLink, ReceiveRecord.clear]
  · unfold State.sdoBit State.sdoByte
    split <;> simp

end Sys2Proof.Machine
end

section
namespace Sys2Proof.Machine

-- One theorem after another, as in the tests: a thread for each proof takes more memory than the check gives.
set_option Elab.async false

/-! # The receive record (R7) -/

/-- The bytes of the first run stand at their own positions. -/
theorem byteAt_append_left {l : List Byte} {i : Nat} (h : i < l.length) (r : List Byte) : byteAt (l ++ r) i = byteAt l i := by
  simp [byteAt, List.getElem?_append_left h]

/-- The bytes of the second run follow the first. -/
theorem byteAt_append_right (l r : List Byte) (i : Nat) : byteAt (l ++ r) (l.length + i) = byteAt r i := by
  simp [byteAt, List.getElem?_append_right]

/-- The CRC-8 of the bytes before byte 3+L of a frame (R7, R8). -/
def frameCrc (bytes : List Byte) : Byte := crc8 (bytes.take (3 + (byteAt bytes 2).toNat))

/-- The receive record that a run of whole bytes leaves, in terms of the run (R7): the count stops after the CRC-8 byte, a payload
of at most 56 bytes is kept, and byte 3+L is compared with the CRC-8 of the bytes before it. -/
def ReceiveRecord.ofBytes (bytes : List Byte) : ReceiveRecord :=
  let len := (byteAt bytes 2).toNat
  { count := min bytes.length (4 + len)
    kind := byteAt bytes 0
    tags := byteAt bytes 1
    length := byteAt bytes 2
    payload := if len ≤ 56 then (bytes.drop 3).take len else []
    crc := frameCrc bytes
    crcMatch := decide (4 + len ≤ bytes.length) && frameCrc bytes == byteAt bytes (3 + len) }

/-- The CRC-8 of a header and a payload cut off at the header's length. -/
theorem frameCrc_header (k t n : Byte) (rest : List Byte) :
    frameCrc (k :: t :: n :: rest) = crc8 (k :: t :: n :: rest.take n.toNat) := by
  have h : 3 + n.toNat = n.toNat + 1 + 1 + 1 := by omega
  simp only [frameCrc, byteAt, List.getD_cons_succ, List.getD_cons_zero, h, List.take_succ_cons]

/-- The receive record of a run that holds the three bytes of the header. -/
theorem ReceiveRecord.ofBytes_header (k t n : Byte) (rest : List Byte) :
    ReceiveRecord.ofBytes (k :: t :: n :: rest) =
      { count := 3 + min rest.length (1 + n.toNat)
        kind := k
        tags := t
        length := n
        payload := if n.toNat ≤ 56 then rest.take n.toNat else []
        crc := crc8 (k :: t :: n :: rest.take n.toNat)
        crcMatch := decide (n.toNat < rest.length) &&
          crc8 (k :: t :: n :: rest.take n.toNat) == byteAt rest n.toNat } := by
  have h : 3 + n.toNat = n.toNat + 1 + 1 + 1 := by omega
  simp only [ReceiveRecord.ofBytes, frameCrc_header, byteAt, List.getD_cons_succ, List.getD_cons_zero, h, List.drop_succ_cons,
    List.drop_zero, List.length_cons, ReceiveRecord.mk.injEq, true_and]
  constructor
  · omega
  · congr 2
    simp only [eq_iff_iff]
    omega

/-- A payload byte is kept, if the length is at most 56, and enters the CRC-8 (R7). -/
theorem ReceiveRecord.receive_payload {r : ReceiveRecord} (b : Byte) (h3 : 3 ≤ r.count) (h : r.count < 3 + r.length.toNat) :
    r.receive b = { r with
      count := r.count + 1
      payload := if r.length.toNat ≤ 56 then r.payload ++ [b] else r.payload
      crc := crcByte r.crc b } := by
  have h0 : r.count ≠ 0 := by omega
  have h1 : r.count ≠ 1 := by omega
  have h2 : r.count ≠ 2 := by omega
  unfold ReceiveRecord.receive
  rw [if_neg h0, if_neg h1, if_neg h2, if_pos h]
  rfl

/-- Byte 3+L is compared with the CRC-8 (R7). -/
theorem ReceiveRecord.receive_crc {r : ReceiveRecord} (b : Byte) (h : r.count = 3 + r.length.toNat) :
    r.receive b = { r with count := r.count + 1, crcMatch := r.crc == b } := by
  have h0 : r.count ≠ 0 := by omega
  have h1 : r.count ≠ 1 := by omega
  have h2 : r.count ≠ 2 := by omega
  have hlt : ¬r.count < 3 + r.length.toNat := by omega
  unfold ReceiveRecord.receive
  rw [if_neg h0, if_neg h1, if_neg h2, if_neg hlt, if_pos h]

/-- Every byte behind byte 3+L is ignored (R7). -/
theorem ReceiveRecord.receive_ignored {r : ReceiveRecord} (b : Byte) (h : 3 + r.length.toNat < r.count) : r.receive b = r := by
  have h0 : r.count ≠ 0 := by omega
  have h1 : r.count ≠ 1 := by omega
  have h2 : r.count ≠ 2 := by omega
  have hlt : ¬r.count < 3 + r.length.toNat := by omega
  have heq : r.count ≠ 3 + r.length.toNat := by omega
  unfold ReceiveRecord.receive
  rw [if_neg h0, if_neg h1, if_neg h2, if_neg hlt, if_neg heq]

/-- One more byte behind the header: a payload byte, the CRC-8 byte, or a byte that is ignored (R7). -/
theorem ReceiveRecord.ofBytes_receive (k t n : Byte) (rest : List Byte) (b : Byte) :
    (ReceiveRecord.ofBytes (k :: t :: n :: rest)).receive b = ReceiveRecord.ofBytes (k :: t :: n :: (rest ++ [b])) := by
  rw [ofBytes_header, ofBytes_header]
  rcases Nat.lt_trichotomy rest.length n.toNat with hlt | heq | hgt
  · rw [receive_payload b (by simp) (by simp only; omega)]
    have htake : (rest ++ [b]).take n.toNat = rest ++ [b] := List.take_of_length_le (by simp; omega)
    have hcount : min (rest.length + 1) (1 + n.toNat) = min rest.length (1 + n.toNat) + 1 := by omega
    have hshort : ¬n.toNat < rest.length := by omega
    have hshort' : ¬n.toNat < rest.length + 1 := by omega
    simp only [htake, List.take_of_length_le hlt.le, List.length_append, List.length_singleton, hcount, hshort, hshort']
    congr 1
    · split <;> rfl
    · exact (crc8_append (k :: t :: n :: rest) b).symm
  · rw [receive_crc b (by simp only; omega)]
    have hlast : byteAt (rest ++ [b]) rest.length = b := byteAt_append_right rest [b] 0
    simp [← heq, hlast, Nat.add_assoc]
  · rw [receive_ignored b (by simp only; omega)]
    have htake : (rest ++ [b]).take n.toNat = rest.take n.toNat := List.take_append_of_le_length hgt.le
    have hcount : min (rest.length + 1) (1 + n.toNat) = min rest.length (1 + n.toNat) := by omega
    have hgt' : n.toNat < rest.length + 1 := by omega
    simp only [htake, byteAt_append_left hgt, List.length_append, List.length_singleton, hcount, hgt, hgt']

/-- The receive record of a run of bytes, received one after another from the cleared record (R3, R7). -/
theorem ReceiveRecord.foldl_receive (bytes : List Byte) :
    bytes.foldl ReceiveRecord.receive .clear = ReceiveRecord.ofBytes bytes := by
  induction bytes using List.reverseRecOn with
  | nil => rfl
  | append_singleton bytes b ih =>
    rw [List.foldl_append, ih, List.foldl_cons, List.foldl_nil]
    match bytes with
    | [] => rfl
    | [_] => rfl
    | [k, t] =>
      rw [List.cons_append, List.cons_append, List.nil_append, ofBytes_header]
      simp [ReceiveRecord.ofBytes, ReceiveRecord.receive, byteAt, frameCrc, crc8]
    | k :: t :: n :: rest => exact ReceiveRecord.ofBytes_receive k t n rest b

end Sys2Proof.Machine
end

section
namespace Sys2Proof.Machine

-- One theorem after another, as in the tests: a thread for each proof takes more memory than the check gives.
set_option Elab.async false

/-! # The judgement of a down-frame (R9 to R15, R19 to R21) -/

/-- The judgement of a run too short for its frame (R9 check 2). -/
theorem judge_short (l : Link) {bytes : List Byte} (h : bytes.length < 3 ∨ bytes.length < 4 + (byteAt bytes 2).toNat) :
    judge l (.ofBytes bytes) = .short := by
  rw [judge, if_pos]
  simp only [ReceiveRecord.ofBytes]
  omega

/-- The judgement of a run whose byte 3+L is not its CRC-8 (R9 check 3). -/
theorem judge_crcFail (l : Link) {bytes : List Byte} (hlen : 4 + (byteAt bytes 2).toNat ≤ bytes.length)
    (hcrc : byteAt bytes (3 + (byteAt bytes 2).toNat) ≠ frameCrc bytes) : judge l (.ofBytes bytes) = .crcFail := by
  have hcount : ¬((ReceiveRecord.ofBytes bytes).count < 3 ∨
      (ReceiveRecord.ofBytes bytes).count < 4 + (ReceiveRecord.ofBytes bytes).length.toNat) := by
    simp only [ReceiveRecord.ofBytes]
    omega
  have hmatch : (ReceiveRecord.ofBytes bytes).crcMatch = false := by
    simp [ReceiveRecord.ofBytes, hcrc.symm]
  rw [judge, if_neg hcount, hmatch]
  rfl

/-- The request that a frame carries: that of its kind code and length, with a tag that is 0 exactly for POLL (R10). -/
theorem ReceiveRecord.wellFormedKind_eq_some_iff (r : ReceiveRecord) (k : Kind) :
    r.wellFormedKind = some k ↔ kindOf r.kind r.length.toNat = some k ∧ (k = .poll ↔ r.requestTag = 0) := by
  unfold wellFormedKind
  split
  next h =>
    rw [h]
    by_cases htag : r.requestTag = 0
    · simp only [htag, if_true, iff_true, Option.some.injEq, eq_comm, and_self]
    · simp only [htag, if_false, iff_false, Option.some.injEq, reduceCtorEq, eq_comm, and_not_self]
  next k' hne h =>
    rw [h]
    by_cases htag : r.requestTag = 0
    · simp only [htag, if_true, iff_true, Option.some.injEq, reduceCtorEq, false_iff]
      exact fun ⟨hk, hpoll⟩ => hne (hk.trans hpoll)
    · simp only [htag, if_false, iff_false, Option.some.injEq]
      exact ⟨fun hk => ⟨hk, fun hpoll => hne (hk.trans hpoll)⟩, fun ⟨hk, _⟩ => hk⟩
  next h => simp only [h, reduceCtorEq, false_and]

/-- An acknowledgement changes the response queue alone (R15). -/
theorem Link.acknowledge_eq (l : Link) (ack : Tag) :
    l.acknowledge ack = { l with responses := ackedResponses l.responses ack } := by
  obtain ⟨_, _, _, _, _, _, _, _, _, responses⟩ := l
  cases responses with
  | nil => rfl
  | cons r rest =>
    simp only [Link.acknowledge, ackedResponses]
    split <;> rfl

/-- A frame that fails check 2 or 3 is counted and raises LINK_ERROR, and leaves the queues and the supervisor alone (R9, R19). -/
theorem State.judgeFrame_bad {s : State} {v : Verdict} (hv : judge s.link s.link.rx = v) (hbad : v = .short ∨ v = .crcFail) :
    s.judgeFrame = { s with
      link := { s.link with verdict := v, verdictTag := 0, errors := satAdd s.link.errors 1 }
      notify := s.notify.Raised 10 } := by
  rcases hbad with rfl | rfl <;>
    simp [State.judgeFrame, hv, Verdict.validFrame, Verdict.linkError, Verdict.reportedTag, State.raise_eq, State.setLink,
      Cause.num]

/-- A valid frame that is not ACCEPTED applies its acknowledgement and its valid-frame event; MALFORMED is a link error besides
(R9, R13, R15, R20, R21). -/
theorem State.judgeFrame_valid {s : State} {v : Verdict} (hv : judge s.link s.link.rx = v)
    (hvalid : v = .malformed ∨ v = .poll ∨ v = .duplicate ∨ v = .queueFull) :
    s.judgeFrame = { s with
      link := { s.link with
        verdict := v
        verdictTag := if v = .poll then 0 else s.link.rx.requestTag
        errors := if v = .malformed then satAdd s.link.errors 1 else s.link.errors
        responses := ackedResponses s.link.responses s.link.rx.ackTag }
      wd := { s.wd with silence := 0 }
      notify := if v = .malformed then s.notify.Raised 10 else s.notify } := by
  rcases hvalid with rfl | rfl | rfl | rfl <;>
    simp [State.judgeFrame, hv, Verdict.validFrame, Verdict.linkError, Verdict.reportedTag, State.raise_eq, State.setLink,
      State.setWd, Cause.num, Link.acknowledge_eq]

/-- An ACCEPTED frame queues its request, and applies its acknowledgement and its valid-frame event (R9 check 8, R14, R15). -/
theorem State.judgeFrame_accepted {s : State} {k : Kind} (hv : judge s.link s.link.rx = .accepted)
    (hk : s.link.rx.wellFormedKind = some k) :
    s.judgeFrame = { s with
      link := { s.link with
        lastTag := some s.link.rx.requestTag
        verdict := .accepted
        verdictTag := s.link.rx.requestTag
        requests := s.link.requests ++ [⟨k, s.link.rx.requestTag, s.link.rx.payload⟩]
        responses := ackedResponses s.link.responses s.link.rx.ackTag }
      wd := { s.wd with silence := 0 } } := by
  simp [State.judgeFrame, hv, Verdict.validFrame, Verdict.linkError, Verdict.reportedTag, State.setLink, State.setWd,
    Link.acknowledge_eq, Link.accept, hk]

/-! ## The rise of nCS -/

/-- A rise after whole bytes judges the receive record that they leave (R3, R7, R9; log entry 12). -/
theorem exec_ncsRise_clocked {s : State} {bytes : List Byte} {tail : List Bool} (htail : tail.length < 8)
    (htxn : s.link.txn = .receiving) (hrx : s.link.rx = .clear) (hbytes : bytes ≠ []) :
    exec (.ncsRise (clocked bytes tail)) s =
      .next ({ s with link := { s.link with txn := .idle, rx := .ofBytes bytes } } : State).judgeFrame := by
  have hcount : (ReceiveRecord.ofBytes bytes).count ≠ 0 := by
    have := List.length_pos_iff.2 hbytes
    simp only [ReceiveRecord.ofBytes]
    omega
  show execNcsRise (clocked bytes tail) s = _
  simp [execNcsRise, wholeBytes_clocked bytes htail, State.ncsRise, htxn, hrx, ReceiveRecord.foldl_receive, hcount,
    State.setLink]

/-- Settles O8: the record of the bytes fails check 2 or check 3 of R9. -/
theorem ncsRiseBadFrames : Obligations.NcsRiseBadFrames := by
  intro s bytes tail htail htxn hrx hbytes v hv
  refine ⟨.ofBytes bytes, ?_⟩
  rw [exec_ncsRise_clocked htail htxn hrx hbytes]
  congr 1
  rcases hv with ⟨rfl, hlen⟩ | ⟨rfl, hlen, hcrc⟩
  · exact State.judgeFrame_bad (judge_short _ hlen) (.inl rfl)
  · exact State.judgeFrame_bad (judge_crcFail _ hlen hcrc) (.inr rfl)

/-! ## Down-frames that are correct (R7, R8, R10) -/

/-- A length of at most 255 as a byte is itself. -/
theorem toNat_byteOf {n : Nat} (h : n ≤ 255) : (byteOf n).toNat = n := by
  rw [byteOf, BitVec.toNat_ofNat]
  omega

/-- The receive record of a frame of a kind code, the two tags and a payload whose CRC-8 matches (R7, R8). -/
structure ReceiveRecord.Correct (r : ReceiveRecord) (code : Byte) (tag ack : Tag) (payload : List Byte) : Prop where
  count : r.count = 4 + r.length.toNat
  kind : r.kind = code
  tags : r.tags = tag ++ ack
  length : r.length.toNat = payload.length
  payload : payload.length ≤ 56 → r.payload = payload
  crcMatch : r.crcMatch = true

/-- The bytes of a down-frame leave its receive record, whatever bytes follow them (R7, R8). -/
theorem ReceiveRecord.ofBytes_downFrame (code : Byte) (tag ack : Tag) {payload : List Byte} (extra : List Byte)
    (hlen : payload.length ≤ 255) :
    (ReceiveRecord.ofBytes (downFrame code tag ack payload ++ extra)).Correct code tag ack payload := by
  have hcrc (c : Byte) : byteAt (payload ++ c :: extra) payload.length = c :=
    byteAt_append_right payload (c :: extra) 0
  simp only [downFrame, List.cons_append, List.nil_append, List.append_assoc]
  rw [ofBytes_header]
  exact
    { count := by simp [toNat_byteOf hlen]; omega
      kind := rfl
      tags := rfl
      length := toNat_byteOf hlen
      payload := fun h => by simp [toNat_byteOf hlen, h]
      crcMatch := by simp [toNat_byteOf hlen, hcrc] }

section Correct

variable {r : ReceiveRecord} {code : Byte} {tag ack : Tag} {payload : List Byte} (h : r.Correct code tag ack payload)
include h

/-- The request tag is the upper nibble of byte 1 (R7). -/
theorem ReceiveRecord.Correct.requestTag_eq : r.requestTag = tag := by
  rw [requestTag, h.tags]
  exact BitVec.extractLsb'_append_eq_left

/-- The acknowledgement tag is the lower nibble of byte 1 (R7). -/
theorem ReceiveRecord.Correct.ackTag_eq : r.ackTag = ack := by
  rw [ackTag, h.tags]
  exact BitVec.extractLsb'_append_eq_right

/-- The request of a correct frame, by its kind code, its length and its tag (R10). -/
theorem ReceiveRecord.Correct.wellFormedKind_iff (k : Kind) :
    r.wellFormedKind = some k ↔ kindOf code payload.length = some k ∧ (k = .poll ↔ tag = 0) := by
  rw [wellFormedKind_eq_some_iff, h.requestTag_eq, h.kind, h.length]

/-- The judgement of a frame that breaks a rule of R10 (R9 check 4). -/
theorem ReceiveRecord.Correct.judge_malformed (l : Link)
    (hk : ∀ k, kindOf code payload.length = some k → ¬(k = .poll ↔ tag = 0)) : judge l r = .malformed := by
  have hnone : r.wellFormedKind = none :=
    Option.eq_none_iff_forall_ne_some.2 fun k hk' => by
      obtain ⟨hkind, htag⟩ := (h.wellFormedKind_iff k).1 hk'
      exact hk k hkind htag
  rw [judge, if_neg (by have := h.count; omega), h.crcMatch, hnone]
  rfl

/-- The judgement of a POLL frame (R9 check 5). -/
theorem ReceiveRecord.Correct.judge_poll (l : Link) (hk : kindOf code payload.length = some .poll) (htag : tag = 0) :
    judge l r = .poll := by
  rw [judge, if_neg (by have := h.count; omega), h.crcMatch, (h.wellFormedKind_iff .poll).2 ⟨hk, by simp [htag]⟩]
  rfl

/-- The judgement of a request frame: the last accepted tag and the room in the queue decide (R9 checks 6 to 8). -/
theorem ReceiveRecord.Correct.judge_request (l : Link) {k : Kind} (hk : kindOf code payload.length = some k)
    (hpoll : k ≠ .poll) (htag : tag ≠ 0) :
    judge l r = if l.lastTag = some tag then .duplicate else if 4 ≤ l.requests.length then .queueFull else .accepted := by
  rw [judge, if_neg (by have := h.count; omega), h.crcMatch,
    (h.wellFormedKind_iff k).2 ⟨hk, iff_of_false hpoll htag⟩, h.requestTag_eq]
  cases k
  case poll => contradiction
  all_goals rfl

end Correct

/-- A down-frame holds at least its header. -/
theorem downFrame_append_ne_nil (code : Byte) (tag ack : Tag) (payload extra : List Byte) :
    downFrame code tag ack payload ++ extra ≠ ([] : List Byte) := by
  simp [downFrame]

/-- Settles O7: the kind, the tag, the last accepted tag and the room give the verdict, and the verdict what the frame does. -/
theorem ncsRiseOtherValidFrames : Obligations.NcsRiseOtherValidFrames := by
  intro s code tag ack payload extra v tail htail htxn hrx hlen hv
  have hrise := exec_ncsRise_clocked htail htxn hrx (downFrame_append_ne_nil code tag ack payload extra)
  have hr := ReceiveRecord.ofBytes_downFrame code tag ack extra hlen
  generalize ReceiveRecord.ofBytes (downFrame code tag ack payload ++ extra) = r at hrise hr
  refine ⟨r, ?_⟩
  rw [hrise, State.judgeFrame_valid (v := v)]
  · simp only [hr.requestTag_eq, hr.ackTag_eq]
  · show judge { s.link with txn := .idle, rx := r } r = v
    rcases hv with ⟨rfl, hbad⟩ | ⟨rfl, hpoll, htag⟩ | ⟨rfl, hknown, hpoll, htag, hlast⟩ |
      ⟨rfl, hknown, hpoll, htag, hlast, hfull⟩
    · refine hr.judge_malformed _ fun k hk hrule => ?_
      rw [hk] at hbad
      rcases hbad with hnone | ⟨hpoll, htag⟩ | ⟨hpoll, htag⟩
      · cases hnone
      · exact htag (hrule.1 (Option.some.inj hpoll))
      · exact hpoll (congrArg some (hrule.2 htag))
    · exact hr.judge_poll _ hpoll htag
    · obtain ⟨k, hk⟩ := Option.ne_none_iff_exists'.1 hknown
      rw [hr.judge_request _ hk (fun h => hpoll (h ▸ hk)) htag, if_pos hlast]
    · obtain ⟨k, hk⟩ := Option.ne_none_iff_exists'.1 hknown
      rw [hr.judge_request _ hk (fun h => hpoll (h ▸ hk)) htag, if_neg hlast, if_pos hfull]
  · tauto

/-! ## The catalogue of kinds (R33) -/

/-- The lengths that NOTIFY_ACK permits are those of 1 to 12 pairs (R33). -/
theorem notifyAck_length_iff (len : Nat) :
    (∃ pairs, 1 ≤ pairs ∧ pairs ≤ 12 ∧ len = 2 * pairs) ↔ len ≠ 0 ∧ len % 2 = 0 ∧ len ≤ 24 := by
  constructor
  · rintro ⟨pairs, h1, h12, rfl⟩
    omega
  · intro h
    exact ⟨len / 2, by omega⟩

/-- No request kind permits a payload of more than 32 bytes (R33). -/
theorem length_le_of_kindOf {code : Byte} {len : Nat} {k : Kind} (h : kindOf code len = some k) : len ≤ 32 := by
  unfold kindOf at h
  split at h
  case h_34 => cases h
  all_goals
    split_ifs at h <;> omega

/-- Settles O6: the catalogue row by row, and the ACCEPTED frame by its judgement. -/
theorem ncsRiseAcceptsRequest : Obligations.NcsRiseAcceptsRequest := by
  refine ⟨fun code len k => ?_, ?_⟩
  · simp only [notifyAck_length_iff]
    constructor
    · intro h
      unfold kindOf at h
      split at h
      case h_34 => cases h
      all_goals
        rename_i hcode
        split_ifs at h <;> cases h <;> exact ⟨BitVec.eq_of_toNat_eq hcode, by omega⟩
    · intro h
      cases k <;> obtain ⟨rfl, hlen⟩ := h <;> simp [kindOf, hlen]
  · intro s code k tag ack payload extra tail htail htxn hrx hkind hpoll htag hlast hroom
    have hlen : payload.length ≤ 32 := length_le_of_kindOf hkind
    have hrise := exec_ncsRise_clocked htail htxn hrx (downFrame_append_ne_nil code tag ack payload extra)
    have hr := ReceiveRecord.ofBytes_downFrame code tag ack extra (payload := payload) (by omega)
    generalize ReceiveRecord.ofBytes (downFrame code tag ack payload ++ extra) = r at hrise hr
    refine ⟨r, ?_⟩
    rw [hrise, State.judgeFrame_accepted _ ((hr.wellFormedKind_iff k).2 ⟨hkind, iff_of_false hpoll htag⟩)]
    · simp only [hr.requestTag_eq, hr.ackTag_eq, hr.payload (by omega)]
    · show judge { s.link with txn := .idle, rx := r } r = .accepted
      rw [hr.judge_request _ hkind hpoll htag, if_neg hlast, if_neg (Nat.not_le.2 hroom)]

end Sys2Proof.Machine
end

section
namespace Sys2Proof.Machine

-- One theorem after another, as in the tests: a thread for each proof takes more memory than the check gives.
set_option Elab.async false

/-! # The state after a power-on reset (R25 to R188) -/

/-- The journal after a power-on reset meets its invariant (R115). -/
theorem reset_journal_wf : State.reset.journal.Wf :=
  ⟨by decide +kernel, by decide +kernel, by decide +kernel, by decide +kernel, by decide +kernel, by decide +kernel⟩

/-- No line is forced after a power-on reset (R155). -/
theorem reset_linesWf : State.reset.LinesWf := by
  unfold State.LinesWf State.Forces
  decide +kernel

/-- The default settings are in range (R35, R38). -/
theorem reset_settings_wf : State.reset.settings.Wf :=
  ⟨by decide +kernel, by decide +kernel, by decide +kernel⟩

/-- The link after a power-on reset meets its invariant (R25). -/
theorem reset_linkWf : State.reset.LinkWf := by
  unfold State.LinkWf
  decide +kernel

/-- The supervisor after a power-on reset meets its invariant (R173). -/
theorem reset_wdWf : State.reset.WdWf := by
  unfold State.WdWf
  decide +kernel

/-- The counters after a power-on reset meet their invariant (R143). -/
theorem reset_counters_wf : ∀ n : Fin 2, State.reset.counters[n].Wf := by
  unfold Counter.Wf
  decide +kernel

/-- The clock after a power-on reset meets its invariant (R65). -/
theorem reset_time_flagWf : State.reset.time.FlagWf := by
  unfold Timebase.FlagWf
  decide +kernel

/-- Settles O60: the values of each block by evaluation of the reset state, and the invariants by the lemmas above. -/
theorem resetStateAndInvariants : Obligations.ResetStateAndInvariants := by
  refine ⟨rfl, rfl, rfl, rfl, rfl, rfl, rfl, rfl, rfl, rfl, rfl, rfl, rfl, rfl, rfl, rfl, rfl, rfl, by decide +kernel,
    by decide +kernel, rfl, by decide +kernel, by decide +kernel, rfl, rfl, by decide +kernel, by decide +kernel, rfl,
    by decide +kernel, by decide +kernel, by decide +kernel, rfl, by decide +kernel, rfl, by decide +kernel, rfl, rfl, rfl, rfl,
    reset_journal_wf, reset_linkWf, reset_linesWf, reset_settings_wf, reset_wdWf, reset_counters_wf, reset_time_flagWf⟩

end Sys2Proof.Machine
end

section
namespace Sys2Proof.Machine

-- One theorem after another, as in the tests: a thread for each proof takes more memory than the check gives.
set_option Elab.async false

/-! # The link's invariant (R2, R3, R14, R16, R22, R24) -/

/-! ## Operations that only take from the link -/

/-- In the operating state of `s`, the link of `t` holds no more than that of `s`: no queue is longer and no transaction has
become RECEIVING. -/
structure State.LinkWithin (s t : State) : Prop where
  op : t.control.op = s.control.op
  requests : t.link.requests.length ≤ s.link.requests.length
  responses : t.link.responses.length ≤ s.link.responses.length
  receiving : t.link.txn = .receiving → s.link.txn = .receiving

/-- An operation that leaves the link and the operating state alone. -/
theorem State.LinkWithin.of_frame {s t : State} (hl : t.link = s.link) (hop : t.control.op = s.control.op) :
    s.LinkWithin t :=
  ⟨hop, by rw [hl], by rw [hl], by rw [hl]; exact id⟩

/-- One such operation after another. -/
theorem State.LinkWithin.trans {s t u : State} (h : s.LinkWithin t) (h' : t.LinkWithin u) : s.LinkWithin u :=
  ⟨h'.op.trans h.op, h'.requests.trans h.requests, h'.responses.trans h.responses, h.receiving ∘ h'.receiving⟩

/-- The invariant survives an operation that only takes from the link. -/
theorem State.LinkWf.of_within {s t : State} (h : s.LinkWf) (hst : s.LinkWithin t) : t.LinkWf := by
  obtain ⟨hreq, hresp, hinert⟩ := h
  refine ⟨hst.requests.trans hreq, hst.responses.trans hresp, fun hop => ?_⟩
  obtain ⟨hq, hr, htxn⟩ := hinert (hst.op ▸ hop)
  refine ⟨?_, ?_, htxn ∘ hst.receiving⟩
  · simpa [hq] using hst.requests
  · simpa [hr] using hst.responses

/-- In ACTIVE the invariant is the capacity of the queues (R2). -/
theorem State.LinkWf.of_active {t : State} (hop : t.control.op = .active) (hreq : t.link.requests.length ≤ 4)
    (hresp : t.link.responses.length ≤ 4) : t.LinkWf :=
  ⟨hreq, hresp, fun h => absurd hop h⟩

/-- A link that is empty and not RECEIVING meets the invariant in every operating state. -/
theorem State.LinkWf.of_empty {t : State} (hreq : t.link.requests = []) (hresp : t.link.responses = [])
    (htxn : t.link.txn ≠ .receiving) : t.LinkWf :=
  ⟨by simp [hreq], by simp [hresp], fun _ => ⟨hreq, hresp, htxn⟩⟩

/-- A flush only takes from the link (R22). -/
theorem State.flush_within (s : State) : s.LinkWithin s.flush := by
  obtain ⟨hreq, hresp, htxn⟩ := Link.flush_empty s.link
  exact ⟨rfl, by simp [State.flush, hreq], by simp [State.flush, hresp], fun h => absurd h htxn⟩

/-- Entry to RESETTING flushes the link, entry to HOLDING leaves it (R164, R167). -/
theorem State.enterResetting_within (s : State) (reason : WdReason) : s.LinkWithin (s.enterResetting reason) := by
  unfold State.enterResetting
  dsimp only
  split
  · exact .of_frame rfl rfl
  · exact (State.LinkWithin.of_frame rfl rfl).trans ((State.flush_within _).trans (.of_frame rfl rfl))

/-- A timed transition only takes from the link (R162 to R165). -/
theorem State.timed_within (s : State) (t : WdTimed) : s.LinkWithin (s.timed t) := by
  cases t with
  | timeout | silence | pulseEnd => exact .of_frame (by simp [State.timed]) (by simp)
  | grace | boot => exact s.enterResetting_within _

/-- A beat only takes from the link (R157). -/
theorem State.beat_within (s : State) : s.LinkWithin s.beat := by
  unfold State.beat
  dsimp only
  have hcount : s.LinkWithin (s.setWd s.wd.count) := .of_frame rfl rfl
  split
  · exact hcount.trans (State.timed_within _ _)
  · exact hcount

/-- A timed transition commanded alone only takes from the link. -/
theorem State.beatOf_within (s : State) (t : WdTimed) : s.LinkWithin (s.beatOf t) := by
  unfold State.beatOf
  split
  · exact s.beat_within
  · exact .of_frame rfl rfl

/-- Step (g) only takes from the link (R157). -/
theorem State.stepG_within (s : State) : s.LinkWithin s.stepG := by
  unfold State.stepG
  split
  · exact s.beat_within
  · exact .of_frame rfl rfl

/-- A boundary touches the link in step (g) alone (R50). -/
theorem State.boundary_within (s : State) (pins : BitVec 8) : s.LinkWithin (s.boundary pins) := by
  unfold State.boundary
  dsimp only
  generalize hf : (((((s.stepA).stepBIfDue).setSignals .none).stepC pins).stepD).stepE.stepF = f
  have hbefore : s.LinkWithin f := .of_frame (by simp [← hf]) (by simp [← hf])
  have hafter : f.stepG.LinkWithin (f.stepG.recompute.setSignals .none) := .of_frame rfl rfl
  exact (hbefore.trans f.stepG_within).trans hafter

/-! ## Performed requests -/

/-- What a performed request may do to the link: an answer only takes from it, and a silent reply keeps the invariant. -/
def Reply.KeepsLink (s : State) : Reply → Prop
  | .answer t _ _ => s.LinkWithin t
  | .silent t => s.LinkWf → t.LinkWf

/-- An answer that leaves the link and the operating state alone. -/
theorem Reply.keepsLink_of_frame {s t : State} (r : Result) (p : List Byte) (hl : t.link = s.link)
    (hop : t.control.op = s.control.op) : (Reply.answer t r p).KeepsLink s :=
  State.LinkWithin.of_frame hl hop

/-- A refusal leaves the link alone (R28). -/
theorem Checks.guard_keepsLink (c : Checks) {s : State} {performed : Reply} (h : performed.KeepsLink s) :
    (c.guard s performed).KeepsLink s := by
  unfold Checks.guard
  split
  · exact Reply.keepsLink_of_frame _ _ rfl rfl
  · exact h

/-- The release empties the error counter and nothing else of the link (R189). -/
theorem State.release_link (s : State) (c : ResetCause) : (s.release c).link = { s.link with errors := 0 } := by
  have hblocks : (s.releaseBlocks c).link = { s.link with errors := 0 } := rfl
  unfold State.release
  dsimp only
  split <;> simp [hblocks]

/-- The release enters ACTIVE and clears the hold mark (R189). -/
theorem State.release_control (s : State) (c : ResetCause) :
    (s.release c).control = { s.control with op := .active, holdMark := false } := by
  unfold State.release
  dsimp only
  split <;> simp

/-- The release keeps the capacity of the queues (R189). -/
theorem State.LinkWf.release {s : State} (h : s.LinkWf) (c : ResetCause) : (s.release c).LinkWf := by
  obtain ⟨hreq, hresp, -⟩ := h
  have hlink := s.release_link c
  exact .of_active (by rw [State.release_control]) (by rw [hlink]; exact hreq) (by rw [hlink]; exact hresp)

/-- A feed flushes the link when it escalates, and leaves it otherwise (R160, R161, R164). -/
theorem reqWdFeed_keepsLink (p : List Byte) (s : State) : (reqWdFeed p s).KeepsLink s := by
  unfold reqWdFeed
  dsimp only
  split
  · split_ifs <;> exact Reply.keepsLink_of_frame _ _ rfl rfl
  iterate 2
    split_ifs
    · exact Reply.keepsLink_of_frame _ _ rfl rfl
    · exact s.enterResetting_within _
  all_goals exact Reply.keepsLink_of_frame _ _ rfl rfl

/-- COUNTER_CONTROL performs one of the counters' operations (R136). -/
theorem requestBody_counterControl (selector : List Byte) :
    ∃ f, requestBody .counterControl selector = counterControl f := by
  unfold requestBody
  dsimp only
  split <;> exact ⟨_, rfl⟩

/-- Every request keeps to this (R27). -/
theorem requestBody_keepsLink (k : Kind) (selector p : List Byte) (s : State) :
    (requestBody k selector p s).KeepsLink s := by
  cases k with
  | poll => exact id
  | deviceReset =>
    unfold requestBody
    dsimp only
    split
    · exact Checks.guard_keepsLink _ fun h => h.of_within s.flush_within
    · exact Checks.guard_keepsLink _ fun h => (h.of_within s.flush_within).release .request
  | linkStats => exact State.LinkWithin.mk rfl le_rfl le_rfl id
  | wdFeed => exact reqWdFeed_keepsLink p s
  | journalAck =>
    show (reqJournalAck p s).KeepsLink s
    unfold reqJournalAck
    split <;> exact Reply.keepsLink_of_frame _ _ rfl rfl
  | counterControl =>
    obtain ⟨f, hf⟩ := requestBody_counterControl selector
    rw [hf]
    refine Checks.guard_keepsLink _ ?_
    split <;> exact Reply.keepsLink_of_frame _ _ rfl rfl
  | notifyEnable =>
    unfold requestBody
    dsimp only
    split <;> exact Checks.guard_keepsLink _ (Reply.keepsLink_of_frame _ _ rfl rfl)
  | schedArm | schedPause | schedResume | schedCancel | schedRead | counterLatch | outputPulse | outputClaim =>
    refine Checks.guard_keepsLink _ ?_
    split <;> exact Reply.keepsLink_of_frame _ _ rfl rfl
  | settingRead | settingWrite | lock | timeSet | journalPull | outputWrite | wdStart | wdStop | notifyAck =>
    exact Checks.guard_keepsLink _ (Reply.keepsLink_of_frame _ _ rfl rfl)
  | deviceInfo | timeRead | timeSlew | schedSummary | journalRewind | journalNote | journalStatus | senseRead | counterRead
  | outputRead | wdStatus | notifyRead => exact Reply.keepsLink_of_frame _ _ rfl rfl

/-- The end of a request in ACTIVE, with room for its response, keeps the invariant (R17). -/
theorem Reply.finish_linkWf {s : State} (h : s.LinkWf) (hop : s.control.op = .active) (hroom : s.link.responses.length < 4)
    (tag : Tag) {r : Reply} (hr : r.KeepsLink s) : (r.finish tag).LinkWf := by
  cases r with
  | answer t result p =>
    have ht : t.LinkWf := h.of_within hr
    have hreq := hr.requests
    have hresp := hr.responses
    refine .of_active (hr.op.trans hop) ht.1 ?_
    show (t.link.responses ++ [_]).length ≤ 4
    simp
    omega
  | silent t => exact (hr h).of_within (.of_frame rfl rfl)

/-- Performing the head request keeps the invariant (R17, R18). -/
theorem State.perform_linkWf {s : State} (h : s.LinkWf) (accepts : Request → Bool) (k : Kind) (selector : List Byte) :
    (s.perform accepts (requestBody k selector)).LinkWf := by
  obtain hwait | ⟨q, rest, ⟨hop, hroom, hq⟩, -, hperform⟩ := s.perform_cases accepts (requestBody k selector)
  · rwa [hwait]
  · rw [hperform]
    have htook : s.LinkWithin (s.took rest) := ⟨rfl, by simp [State.took, hq], le_rfl, id⟩
    exact Reply.finish_linkWf (h.of_within htook) hop hroom q.tag (requestBody_keepsLink k selector q.payload _)

/-! ## The edges of nCS -/

/-- A fall begins a RECEIVING transaction in ACTIVE only (R3, R24). -/
theorem State.LinkWf.ncsFall {s : State} (h : s.LinkWf) : s.ncsFall.LinkWf := by
  unfold State.ncsFall
  split
  · split
    next hop => exact .of_active hop h.1 h.2.1
    next => exact h.of_within ⟨rfl, le_rfl, le_rfl, nofun⟩
  · exact h
  · exact h

/-- An acknowledgement only takes from the response queue (R15). -/
theorem length_ackedResponses_le (responses : List Response) (ack : Tag) :
    (ackedResponses responses ack).length ≤ responses.length := by
  unfold ackedResponses
  split
  · exact le_rfl
  · split <;> simp

/-- A frame is ACCEPTED only with a request to queue and room for it (R9 checks 7 and 8, R14). -/
theorem judge_accepted {l : Link} {r : ReceiveRecord} (h : judge l r = .accepted) :
    (∃ k, r.wellFormedKind = some k) ∧ l.requests.length < 4 := by
  unfold judge at h
  split at h
  · cases h
  split at h
  · cases h
  split at h
  · cases h
  · cases h
  next k _ hk =>
    split_ifs at h with hlast hfull
    exact ⟨⟨k, hk⟩, Nat.not_le.1 hfull⟩

/-- A judged frame has one of seven verdicts (R11). -/
theorem judge_ne_none (l : Link) (r : ReceiveRecord) : judge l r ≠ .none := by
  unfold judge
  split
  · nofun
  split
  · nofun
  split
  · nofun
  · nofun
  · split_ifs <;> nofun

/-- The judgement of a frame in ACTIVE keeps the capacity of the queues (R2, R14). -/
theorem State.LinkWf.judgeFrame {s : State} (h : s.LinkWf) (hop : s.control.op = .active) : s.judgeFrame.LinkWf := by
  obtain ⟨hreq, hresp, -⟩ := h
  have hacked : (ackedResponses s.link.responses s.link.rx.ackTag).length ≤ 4 :=
    (length_ackedResponses_le ..).trans hresp
  cases hv : judge s.link s.link.rx with
  | none => exact absurd hv (judge_ne_none _ _)
  | short | crcFail =>
    rw [State.judgeFrame_bad hv (by simp)]
    exact .of_active hop hreq hresp
  | malformed | poll | duplicate | queueFull =>
    rw [State.judgeFrame_valid hv (by simp)]
    exact .of_active hop hreq hacked
  | accepted =>
    obtain ⟨⟨k, hk⟩, hroom⟩ := judge_accepted hv
    rw [State.judgeFrame_accepted hv hk]
    refine .of_active hop ?_ hacked
    rw [List.length_append, List.length_singleton]
    exact hroom

/-- A rise judges a frame in ACTIVE only, since an inert link is not RECEIVING (R3, R9, R24). -/
theorem State.LinkWf.ncsRise {s : State} (h : s.LinkWf) (bytes : List Byte) : (s.ncsRise bytes).LinkWf := by
  unfold State.ncsRise
  split
  · exact h
  · exact h.of_within ⟨rfl, le_rfl, le_rfl, nofun⟩
  next htxn =>
    have hop : s.control.op = .active := by
      by_contra hop
      obtain ⟨-, -, hinert⟩ := h
      exact (hinert hop).2.2 htxn
    have hrise : (s.setLink { s.link with txn := .idle, rx := bytes.foldl ReceiveRecord.receive s.link.rx }).LinkWf :=
      h.of_within ⟨rfl, le_rfl, le_rfl, nofun⟩
    dsimp only
    split
    · exact hrise
    · exact hrise.judgeFrame hop

/-! ## Operating states, supplies and nRST -/

/-- Entry to HELD flushes the link (R185). -/
theorem State.enterHeld_linkWf (s : State) : s.enterHeld.LinkWf :=
  have ⟨hreq, hresp, htxn⟩ := Link.flush_empty s.link
  .of_empty hreq hresp htxn

/-- Entry to BACKUP flushes the link (R186). -/
theorem State.enterBackup_linkWf (s : State) : s.enterBackup.LinkWf := by
  have hlink : s.enterBackup.link = s.link.flush := by
    simp [State.enterBackup, State.flush]
  obtain ⟨hreq, hresp, htxn⟩ := Link.flush_empty s.link
  exact .of_empty (hlink ▸ hreq) (hlink ▸ hresp) (hlink ▸ htxn)

/-- While the part is not ACTIVE the link is empty, so it meets the invariant in any operating state that comes next (R24). -/
theorem State.LinkWf.of_inert {s t : State} (h : s.LinkWf) (hop : s.control.op ≠ .active) (hl : t.link = s.link) :
    t.LinkWf := by
  obtain ⟨-, -, hinert⟩ := h
  obtain ⟨hreq, hresp, htxn⟩ := hinert hop
  exact .of_empty (hl ▸ hreq) (hl ▸ hresp) (hl ▸ htxn)

/-- The return from BACKUP, with the release that may follow it (R187). -/
theorem State.LinkWf.returnFromBackup {s : State} (h : s.LinkWf) (hop : s.control.op = .backup) :
    s.returnFromBackup.LinkWf := by
  have hreturn : s.returnEvent.LinkWf := h.of_inert (by simp [hop]) s.returnEvent_link
  unfold State.returnFromBackup
  dsimp only
  split
  · exact hreturn.release .pin
  · exact hreturn

/-- The end of the power-on hold leaves an empty link (R188). -/
theorem State.powerOnReset_linkWf (s : State) : s.powerOnReset.LinkWf := by
  refine .of_empty rfl rfl ?_
  show (if s.link.txn = .idle then Transaction.idle else .discarding) ≠ .receiving
  split <;> nofun

/-- Without a supply the link is empty (R184). -/
theorem State.powerLoss_linkWf (s : State) : s.powerLoss.LinkWf := by
  refine .of_empty rfl rfl ?_
  show (if s.link.txn = .idle then Transaction.idle else .discarding) ≠ .receiving
  split <;> nofun

/-- What the part does on the recognised level of nRST (R183). -/
theorem State.LinkWf.actOnNrst {s : State} (h : s.LinkWf) : s.actOnNrst.LinkWf := by
  unfold State.actOnNrst
  split
  · exact s.enterHeld_linkWf
  · exact h.release .pin
  · exact h

/-- A reading of nRST (R183). -/
theorem State.LinkWf.nrstReading {s : State} (h : s.LinkWf) (high : Bool) : (s.nrstReading high).LinkWf := by
  unfold State.nrstReading
  split
  · exact h
  · refine State.LinkWf.actOnNrst ?_
    exact h.of_within (.of_frame rfl rfl)

/-- The reading of VMAIN that follows a boundary (R184). -/
theorem State.LinkWf.qualify {s : State} (h : s.LinkWf) (vmainGood : Bool) : (s.qualify vmainGood).LinkWf := by
  unfold State.qualify
  split_ifs with hbackup
  · exact h.returnFromBackup hbackup
  · exact h.of_within (.of_frame rfl rfl)
  · exact h.of_within (.of_frame rfl rfl)
  · exact h

/-- A boundary with the restore qualification that follows it (R50, R184). -/
theorem State.LinkWf.tickBoundary {s : State} (h : s.LinkWf) (pins : BitVec 8) (vmainGood : Bool) :
    (s.tickBoundary pins vmainGood).LinkWf := by
  unfold State.tickBoundary
  split
  · exact (h.of_within (s.boundary_within pins)).qualify vmainGood
  · exact h

/-- The recognition of nRST high (R183, R189). -/
theorem State.LinkWf.releaseEvent {s : State} (h : s.LinkWf) : s.releaseEvent.LinkWf := by
  have hhigh : (s.recognise true).LinkWf := h.of_within (.of_frame rfl rfl)
  unfold State.releaseEvent
  split_ifs
  · exact hhigh.release .pin
  · exact h.release .pin
  · exact h

/-- A main fail (R184, R186, R191). -/
theorem State.LinkWf.backupEvent {s : State} (h : s.LinkWf) : s.backupEvent.LinkWf := by
  unfold State.backupEvent
  split
  · exact s.enterBackup_linkWf
  · exact s.enterBackup_linkWf
  · exact h.of_within (.of_frame rfl rfl)
  · exact h
  · exact h

/-! ## The part's own running -/

/-- The divider's count, with the boundary at 32 (R47). -/
theorem State.LinkWf.countDivider {s : State} (h : s.LinkWf) (i : Nat) : (s.countDivider i).LinkWf := by
  unfold State.countDivider
  split
  · exact h.tickBoundary _ _
  · exact h.of_within (.of_frame rfl rfl)

/-- A crystal cycle (R45, R47). -/
theorem State.LinkWf.crystalCycle {s : State} (h : s.LinkWf) (i : Nat) : (s.crystalCycle i).LinkWf := by
  have hmonitor : (s.setTime s.time.crystalCycle).LinkWf := h.of_within (.of_frame rfl rfl)
  unfold State.crystalCycle
  dsimp only
  split_ifs
  · exact hmonitor.countDivider i
  · exact hmonitor
  · exact h

/-- The count of RC cycles between the readings of nRST (R183). -/
theorem State.LinkWf.nrstCycle {s : State} (h : s.LinkWf) (i : Nat) : (s.nrstCycle i).LinkWf := by
  unfold State.nrstCycle
  split
  · exact h.nrstReading _
  · exact h.of_within (.of_frame rfl rfl)

/-- An RC cycle of the power-on hold (R188). -/
theorem State.LinkWf.holdCycle {s : State} (h : s.LinkWf) (i : Nat) : (s.holdCycle i).LinkWf := by
  unfold State.holdCycle
  split_ifs
  · exact s.powerOnReset_linkWf
  all_goals exact h.of_within (.of_frame rfl rfl)

/-- An RC cycle (R45, R47, R183). -/
theorem State.LinkWf.rcCycle {s : State} (h : s.LinkWf) (i : Nat) : (s.rcCycle i).LinkWf := by
  have hcycle := h.nrstCycle i
  unfold State.rcCycle
  dsimp only
  split_ifs
  · exact hcycle.of_within (.of_frame rfl rfl)
  · exact (hcycle.countDivider i).of_within (.of_frame rfl rfl)
  · exact hcycle.holdCycle i

/-- The part's own work: the head request or one oscillator cycle (R26, R44; log entry 2). -/
theorem State.LinkWf.ownWork {s : State} (h : s.LinkWf) : s.ownWork.LinkWf := by
  have hfree : (s.setFreeIndex (s.freeIndex + 1)).LinkWf := h.of_within (.of_frame rfl rfl)
  unfold State.ownWork State.performHead State.oscillatorCycle
  dsimp only
  split_ifs
  · split
    · exact h
    · exact State.perform_linkWf h _ _ _
  · exact h
  · exact hfree.crystalCycle _
  · exact hfree.rcCycle _

/-! ## Every command -/

/-- Every command keeps the link's invariant. -/
theorem exec_linkWf {i : Instr} {s t : State} (h : s.LinkWf) (hexec : exec i s = .next t) : t.LinkWf := by
  by_cases hi : isRequest i = true
  · obtain ⟨accepts, k, selector, hperform⟩ := exec_request hi
    rw [hperform] at hexec
    cases hexec
    exact State.perform_linkWf h _ _ _
  cases i with
  | ncsFall => cases hexec; exact h.ncsFall
  | ncsRise bits => cases hexec; exact h.ncsRise _
  | tickBoundary pins good => cases hexec; exact h.tickBoundary _ _
  | enterHeld =>
    cases hexec
    unfold State.heldEvent
    split
    · exact State.enterHeld_linkWf _
    · exact h
  | release => cases hexec; exact h.releaseEvent
  | enterBackup => cases hexec; exact h.backupEvent
  | returnFromBackup =>
    cases hexec
    unfold State.returnFromBackupEvent
    split
    next hop => exact h.returnFromBackup hop
    next => exact h
  | powerLoss => cases hexec; exact s.powerLoss_linkWf
  | powerOnHold high =>
    cases hexec
    unfold State.powerOnHold
    split
    next hop => exact h.of_inert (by simp [hop]) rfl
    next => exact h
  | powerOnReset =>
    cases hexec
    unfold State.powerOnResetEvent
    split
    · exact s.powerOnReset_linkWf
    · exact h
  | nrstReading high => cases hexec; exact h.nrstReading high
  | timeout | silence | grace | pulseEnd | boot => cases hexec; exact h.of_within (s.beatOf_within _)
  | crystalGood | crystalFailed | gapLongerThan1Ms | sourceChange | epochEnd | rateWindowClose =>
    cases hexec
    exact h.of_within (.of_frame (by split <;> simp) (by split <;> simp))
  | confirmedChange n | expiry n | revert n | fire n =>
    simp only [exec, execConfirmedChange, execExpiry, execRevert, execFire] at hexec
    split at hexec
    · cases hexec
      exact h.of_within (.of_frame (by split <;> simp) (by split <;> simp))
    · cases hexec
  | _ => exact absurd rfl hi

/-- Settles O9: every command and the part's own work keep the invariant. -/
theorem linkInvariantKept : Obligations.LinkInvariantKept := by
  intro s t h hstep
  unfold step at hstep
  split at hstep
  · cases hstep
    exact h.ownWork
  next i rest _ =>
    have hrest : (s.setPending rest).LinkWf := h.of_within (.of_frame rfl rfl)
    exact exec_linkWf hrest hstep

end Sys2Proof.Machine
end

section
namespace Sys2Proof.Machine

-- One theorem after another, as in the tests: a thread for each proof takes more memory than the check gives.
set_option Elab.async false

/-! # The resets and the return from BACKUP (R187, R189, R190) -/

/-! ## DEVICE_RESET -/

/-- A flush empties the request queue whatever has left it before (R22). -/
theorem State.flush_took (s : State) (rest : List Request) : (s.took rest).flush = { s with link := s.link.Flushed } := by
  show ({ s with link := Link.flush { s.link with requests := rest } } : State) = _
  rw [Link.flush_eq]
  rfl

/-- The executor's end of a refused request (R28, R31). -/
theorem State.perform_refused {s : State} {q : Request} {rest : List Request} (h : s.Ready q rest)
    (accepts : Request → Bool) (ha : accepts q = true) {body : List Byte → State → Reply} {r : Result}
    (hbody : body q.payload (s.took rest) = .answer (s.took rest) r []) :
    s.perform accepts body = (s.took rest).answered q.tag r [] := by
  rw [State.perform_ready h accepts ha, hbody, Reply.finish_answer]

/-- DEVICE_RESET of scope LINK is a flush (R190). -/
theorem exec_deviceResetLink {s : State} {tag : Tag} {rest : List Request} (h : s.Ready ⟨.deviceReset, tag, [0]⟩ rest) :
    exec .deviceResetLink s = .next ({ s with link := s.link.Flushed } : State).Recomputed := by
  show Host.Outcome.next (s.perform _ reqDeviceResetLink) = _
  rw [State.perform_ready h _ rfl, ← State.flush_took s rest]
  rfl

/-- DEVICE_RESET of scope FULL outside HOLDING is a flush and the release (R190). -/
theorem exec_deviceResetFull {s : State} {tag : Tag} {rest : List Request} (h : s.Ready ⟨.deviceReset, tag, [1]⟩ rest)
    (hwd : s.wd.state ≠ .holding) :
    exec .deviceResetFull s = .next (State.release { s with link := s.link.Flushed } .request).recompute := by
  have hpass : (deviceResetChecks [1] (s.took rest)).result = none := by
    simp [deviceResetChecks, Checks.result, byteAt, State.took, hwd]
  show Host.Outcome.next (s.perform _ reqDeviceResetFull) = _
  rw [State.perform_ready h _ rfl, ← State.flush_took s rest]
  show Host.Outcome.next (Reply.finish tag (Checks.guard _ _ _)) = _
  rw [Checks.guard_pass hpass]
  rfl

/-- DEVICE_RESET of scope FULL in HOLDING is refused (R190). -/
theorem exec_deviceResetFull_holding {s : State} {tag : Tag} {rest : List Request}
    (h : s.Ready ⟨.deviceReset, tag, [1]⟩ rest) (hwd : s.wd.state = .holding) :
    exec .deviceResetFull s = .next ((s.took rest).answered tag .state []) := by
  have hfail : (deviceResetChecks [1] (s.took rest)).result = some .state := by
    simp [deviceResetChecks, Checks.result, byteAt, State.took, hwd]
  show Host.Outcome.next (s.perform _ reqDeviceResetFull) = _
  rw [State.perform_refused h _ rfl (Checks.guard_fail hfail _ _)]

/-- Another scope is refused by both rows (R190; log entry 15). -/
theorem exec_deviceReset_scope {s : State} {tag : Tag} {rest : List Request} {scope : Byte}
    (h : s.Ready ⟨.deviceReset, tag, [scope]⟩ rest) (hscope : 1 < scope.toNat) :
    exec .deviceResetLink s = .next ((s.took rest).answered tag .range []) ∧
      exec .deviceResetFull s = .next ((s.took rest).answered tag .range []) := by
  have hne : ¬scope = 1#8 := by
    rintro rfl
    exact absurd hscope (by decide)
  have hfail : (deviceResetChecks [scope] (s.took rest)).result = some .range := by
    simp [deviceResetChecks, Checks.result, byteAt, hne, hscope]
  have haccepts (op : Nat) : ofSelector .deviceReset 0 op 2 ⟨.deviceReset, tag, [scope]⟩ = true := by
    have htwo : 2 ≤ scope.toNat := hscope
    simp [ofSelector, byteAt, htwo]
  constructor
  · show Host.Outcome.next (s.perform _ reqDeviceResetLink) = _
    rw [State.perform_refused h _ (haccepts 0) (Checks.guard_fail hfail _ _)]
  · show Host.Outcome.next (s.perform _ reqDeviceResetFull) = _
    rw [State.perform_refused h _ (haccepts 1) (Checks.guard_fail hfail _ _)]

/-! ## Occurrences and the recomputation, cause by cause (R175, R176) -/

/-- Occurrences add to the count of their cause alone (R175). -/
theorem Notification.raise_counts (q : Notification) (c : Cause) (n : Nat) {k : Nat} (hk : k < 12) :
    (q.raise c n).counts[k] = if c.num.val = k then q.counts[k] + BitVec.ofNat 8 n else q.counts[k] := by
  unfold Notification.raise
  split
  next h0 => simp [h0]
  next =>
    simp only [Vector.getElem_set]
    split
    next h => simp [h]
    next => rfl

/-- Occurrences set the pending flag of their cause alone (R175). -/
theorem Notification.raise_pending (q : Notification) (c : Cause) (n : Nat) {k : Nat} (hk : k < 12) :
    (q.raise c n).pending[k] = (q.pending[k] || (decide (n ≠ 0) && decide (c.num.val = k))) := by
  unfold Notification.raise
  split
  next h0 => simp [h0]
  next h0 => simp [h0, eq_comm]

/-- The recomputation re-evaluates the level causes alone (R176). -/
theorem State.recompute_pending_getLsbD (s : State) {k : Nat} (h0 : k ≠ 0) (h7 : k ≠ 7) :
    s.recompute.notify.pending.getLsbD k = s.notify.pending.getLsbD k := by
  have hmask (m : BitVec 12) (c : Cause) (b : Bool) (hc : c.num.val ≠ k) : (maskWith m c b).getLsbD k = m.getLsbD k := by
    unfold maskWith
    split
    · simp [BitVec.getLsbD_twoPow, hc]
    · have hlt : m.getLsbD k = true → k < 12 := BitVec.lt_of_getLsbD
      simpa [BitVec.getLsbD_twoPow, hc] using hlt
  show (maskWith (maskWith _ _ _) _ _).getLsbD k = _
  rw [hmask _ .clockSource _ h7.symm, hmask _ .journalLevel _ h0.symm]

/-! ## Forcing twice (R150) -/

/-- The forcing conditions read the supervisor's state, the settings and the operating state (R150). -/
theorem State.forces_congr {s t : State} (hwd : t.wd.state = s.wd.state) (hsettings : t.settings = s.settings)
    (hop : t.control.op = s.control.op) (n : Fin 6) : t.Forces n ↔ s.Forces n := by
  rw [State.Forces, State.Forces, hwd, hsettings, hop]

/-- Lines are in step with every state of the same lines, settings and conditions (R150). -/
theorem State.Reforced.congr {s t : State} {lines : Vector OutLine 6} (h : s.Reforced lines) (houtputs : t.outputs = s.outputs)
    (hsettings : t.settings = s.settings) (hforces : ∀ n, t.Forces n ↔ s.Forces n) : t.Reforced lines := by
  intro n
  rw [hforces, houtputs, hsettings]
  exact h n

/-- Lines brought in step twice under the same conditions are in step with them (R150). -/
theorem State.Reforced.again {s t : State} {lines : Vector OutLine 6} (hs : s.Reforced t.outputs) (ht : t.Reforced lines)
    (hsettings : t.settings = s.settings) (hforces : ∀ n, t.Forces n ↔ s.Forces n) : s.Reforced lines := by
  intro n
  constructor
  · intro h
    rw [(ht n).1 ((hforces n).2 h), (hs n).1 h, hsettings]
  · intro h
    rw [(ht n).2 (mt (hforces n).1 h), (hs n).2 h]

/-! ## The return from BACKUP (R187) -/

/-- The operating state after a return: that of the recognised level of nRST (R187). -/
def State.returnOp (s : State) : OpState := if s.control.nrst.recognised then .active else .held

/-- The return up to its POWER occurrence (R187 steps 1 to 3). -/
def State.powered (s : State) : State :=
  ((s.setControl { s.control with op := s.returnOp, restoreCount := 0 }).record (.powerUp s.backupSeconds)).raise .power

/-- The return up to the re-arming of a SUSPENDED supervisor (R169, R187 step 4). -/
def State.rearmed (s : State) : State :=
  if s.wd.state = .suspended then s.powered.enterRearm .powerUp else s.powered

/-- The return, but for the forcing and the recomputation at its end (R187 steps 1 to 6). -/
def State.returned (s : State) : State :=
  (s.rearmed.setSense (Vector.ofFn fun n =>
    if s.rearmed.settings.senseWatch n then s.rearmed.sense[n] else { s.rearmed.sense[n] with restart := true })).setControl
    { s.rearmed.control with holdMark := s.rearmed.control.holdMark || s.returnOp == .held }

/-- The return in these words. -/
theorem State.returnEvent_eq (s : State) : s.returnEvent = s.returned.reforce.recompute := rfl

/-- The operating-state control after a return (R187). -/
theorem State.returnEvent_control (s : State) :
    s.returnEvent.control = { s.control with
      op := s.returnOp, holdMark := s.control.holdMark || s.returnOp == .held, restoreCount := 0 } := by
  have hrearmed : s.rearmed.control = { s.control with op := s.returnOp, restoreCount := 0 } := by
    unfold State.rearmed
    split <;> simp [State.powered]
  simp [State.returnEvent_eq, State.returned, hrearmed]

/-- The supervisor after a re-arming (R165, R169). -/
theorem State.enterRearm_wd (s : State) (reason : WdReason) :
    (s.enterRearm reason).wd =
      { s.wd with state := .rearm, token := 0, timer := BitVec.ofNat 12 s.settings.wdBootBeats } := by
  simp only [State.enterRearm, stage_wd, raise_wd, reforce_wd, setWd_wd]

/-- The supervisor after a return: in REARM where it was SUSPENDED (R169). -/
theorem State.returnEvent_wd (s : State) :
    s.returnEvent.wd = if s.wd.state = .suspended then
      { s.wd with state := .rearm, token := 0, timer := BitVec.ofNat 12 s.settings.wdBootBeats } else s.wd := by
  have hwd : s.powered.wd = s.wd := by simp [State.powered]
  have hsettings : s.powered.settings = s.settings := by simp [State.powered]
  rw [State.returnEvent_eq, recompute_wd, reforce_wd, State.returned, setControl_wd, setSense_wd, State.rearmed]
  split
  · rw [State.enterRearm_wd, hwd, hsettings]
  · exact hwd

/-- The journal after an append (R100). -/
theorem State.append_journal (s : State) (b : Body) (f : RecordFlags) :
    (s.append b f).journal = (s.journal.append s.settings.keepNewest s.time.mark b f).journal := rfl

/-- The journal after a re-arming: the WATCHDOG_STAGE record joins it (R172). -/
theorem State.enterRearm_journal (s : State) (reason : WdReason) :
    (s.enterRearm reason).journal =
      (s.append (.watchdogStage s.wd.state .rearm reason s.wd.hostResets) .none).journal := by
  simp only [State.enterRearm, State.stage, State.record, State.append_journal, raise_journal, raise_settings, raise_time,
    raise_wd, reforce_journal, reforce_settings, reforce_time, reforce_wd, setWd_journal, setWd_settings, setWd_time, setWd_wd]

/-- The journal after a return: the POWER_UP record, and the WATCHDOG_STAGE record of the re-arming (R172, R187). -/
theorem State.returnEvent_journal (s : State) :
    s.returnEvent.journal = if s.wd.state = .suspended then
      ((s.append (.powerUp s.backupSeconds) .none).append (.watchdogStage .suspended .rearm .powerUp s.wd.hostResets)
        .none).journal
      else (s.append (.powerUp s.backupSeconds) .none).journal := by
  have hpowered : s.powered.journal = (s.append (.powerUp s.backupSeconds) .none).journal := rfl
  have hrearmed : s.returnEvent.journal = s.rearmed.journal := by
    rw [State.returnEvent_eq, recompute_journal, reforce_journal, State.returned, setControl_journal, setSense_journal]
  have hwd : s.powered.wd = s.wd := by simp [State.powered]
  have hsettings : s.powered.settings = s.settings := by simp [State.powered]
  have htime : s.powered.time = s.time := by simp [State.powered]
  rw [hrearmed, State.rearmed]
  split
  next h =>
    rw [State.enterRearm_journal, hwd, h]
    simp only [State.append_journal, hpowered, hsettings, htime, append_settings, append_time]
  next => exact hpowered

/-- The sense lines after a return: those not watched are marked for a restart (R119, R187). -/
theorem State.returnEvent_sense (s : State) (n : Fin 8) :
    s.returnEvent.sense[n] = if s.settings.senseWatch n then s.sense[n] else { s.sense[n] with restart := true } := by
  have hsense : s.rearmed.sense = s.sense := by
    unfold State.rearmed
    split <;> simp [State.powered]
  have hsettings : s.rearmed.settings = s.settings := by
    unfold State.rearmed
    split <;> simp [State.powered]
  simp [State.returnEvent_eq, State.returned, hsense, hsettings]

/-- The lines after a re-arming are in step with its conditions (R150, R165). -/
theorem State.enterRearm_reforced (s : State) (reason : WdReason) :
    ({ s with wd := (s.enterRearm reason).wd } : State).Reforced (s.enterRearm reason).outputs := by
  have h := State.reforce_spec (s.setWd (s.enterRearm reason).wd)
  rw [State.enterRearm_wd] at *
  simp only [State.enterRearm, stage_outputs, raise_outputs]
  exact h

/-- The lines that a return forces at its end are in step with every state of the lines before it and the conditions after it,
whether a re-arming has forced them before or not (R150, R154). -/
theorem State.Reforced.of_returned {s t : State} (houtputs : t.outputs = s.outputs) (hsettings : t.settings = s.settings)
    (hwd : t.wd.state = s.returned.wd.state) (hop : t.control.op = s.returned.control.op) :
    t.Reforced s.returned.reforce.outputs := by
  have hlast := s.returned.reforce_spec
  have hsettings' : s.returned.settings = t.settings := s.returnEvent_settings.trans hsettings.symm
  have hforces := State.forces_congr hwd hsettings'.symm hop
  have hreturned : s.returned.outputs = s.rearmed.outputs := by
    rw [State.returned, setControl_outputs, setSense_outputs]
  by_cases hstate : s.wd.state = .suspended
  · have hrearmed : s.rearmed = s.powered.enterRearm .powerUp := if_pos hstate
    have hrearm := s.powered.enterRearm_reforced .powerUp
    rw [← hrearmed, ← hreturned] at hrearm
    have hpowered : t.settings = s.powered.settings := hsettings.trans (by simp [State.powered])
    have hop' : t.control.op = s.powered.control.op := by
      rw [hop, State.returned, setControl_control, hrearmed, enterRearm_control]
    have hbase : t.Reforced s.returned.outputs :=
      hrearm.congr (houtputs.trans (by simp [State.powered])) hpowered (State.forces_congr hwd hpowered hop')
    exact hbase.again hlast hsettings' fun n => (hforces n).symm
  · refine hlast.congr ?_ hsettings'.symm hforces
    rw [houtputs, hreturned, State.rearmed, if_neg hstate]
    simp [State.powered]

/-- The lines after a return: as they stood, forced where a condition then holds (R154). -/
theorem State.returnEvent_reforced (s : State) :
    ({ s with control := s.returnEvent.control, wd := s.returnEvent.wd } : State).Reforced s.returnEvent.outputs := by
  rw [State.returnEvent_eq, recompute_control, reforce_control, recompute_wd, reforce_wd, recompute_outputs]
  exact State.Reforced.of_returned (s := s) rfl rfl rfl rfl

/-- An append raises JOURNAL_LOSS for the records it loses (R101). -/
theorem State.append_notify (s : State) (b : Body) (f : RecordFlags) :
    ∃ n, (s.append b f).notify = s.notify.raise .journalLoss n := ⟨_, rfl⟩

/-- The occurrences of a re-arming: one of WATCHDOG, and JOURNAL_LOSS (R101, R165). -/
theorem State.enterRearm_notify (s : State) (reason : WdReason) :
    ∃ n, (s.enterRearm reason).notify = (s.notify.raise .watchdog 1).raise .journalLoss n := by
  obtain ⟨n, hn⟩ := State.append_notify (((s.setWd { s.wd with
      state := .rearm, token := 0, timer := BitVec.ofNat 12 s.settings.wdBootBeats }).reforce).raise .watchdog)
    (.watchdogStage s.wd.state .rearm reason s.wd.hostResets) .none
  exact ⟨n, hn⟩

/-- The occurrences of a return up to its POWER occurrence: that one, and JOURNAL_LOSS (R101, R187). -/
theorem State.powered_notify (s : State) : ∃ n, s.powered.notify = (s.notify.raise .journalLoss n).raise .power 1 := by
  obtain ⟨n, hn⟩ := State.append_notify (s.setControl { s.control with op := s.returnOp, restoreCount := 0 })
    (.powerUp s.backupSeconds) .none
  refine ⟨n, ?_⟩
  rw [State.powered, State.record, State.raise, setNotify_notify, hn, setControl_notify]

/-- The occurrences of a return, before the recomputation at its end. -/
theorem State.rearmed_notify (s : State) :
    ∃ m n, s.rearmed.notify = if s.wd.state = .suspended then
      (((s.notify.raise .journalLoss m).raise .power 1).raise .watchdog 1).raise .journalLoss n
      else (s.notify.raise .journalLoss m).raise .power 1 := by
  obtain ⟨m, hm⟩ := s.powered_notify
  obtain ⟨n, hn⟩ := s.powered.enterRearm_notify .powerUp
  refine ⟨m, n, ?_⟩
  unfold State.rearmed
  split
  · rw [hn, hm]
  · exact hm

/-- The counts after a return: one occurrence of POWER, and one of WATCHDOG where the supervisor was SUSPENDED (R169, R187). -/
theorem State.returnEvent_notify_counts (s : State) :
    s.returnEvent.notify.counts[9] = s.notify.counts[9] + 1 ∧
    s.returnEvent.notify.counts[6] = if s.wd.state = .suspended then s.notify.counts[6] + 1 else s.notify.counts[6] := by
  have hcounts : s.returnEvent.notify.counts = s.rearmed.notify.counts := rfl
  obtain ⟨m, n, h⟩ := s.rearmed_notify
  rw [hcounts, h]
  split <;> simp [Notification.raise_counts, Cause.num]

/-- The event causes pending after a return: POWER, and WATCHDOG where the supervisor was SUSPENDED (R169, R187). -/
theorem State.returnEvent_notify_pending (s : State) :
    s.returnEvent.notify.pending.getLsbD 9 = true ∧
    (s.wd.state = .suspended → s.returnEvent.notify.pending.getLsbD 6 = true) := by
  obtain ⟨m, n, h⟩ := s.rearmed_notify
  have hnotify : s.returned.reforce.notify = s.rearmed.notify := by
    rw [reforce_notify, State.returned, setControl_notify, setSense_notify]
  rw [State.returnEvent_eq, State.recompute_pending_getLsbD _ (by decide) (by decide),
    State.recompute_pending_getLsbD _ (by decide) (by decide), hnotify, h]
  split <;> simp [Notification.raise_pending, Cause.num, *]

/-- The return is followed by the release exactly when it enters ACTIVE with the hold mark set (R187; log entry 10). -/
theorem State.returnEvent_releases_iff (s : State) :
    (s.returnEvent.control.op = .active ∧ s.returnEvent.control.holdMark = true) ↔
      s.control.holdMark = true ∧ s.control.nrst.recognised = true := by
  rw [State.returnEvent_control]
  unfold State.returnOp
  cases s.control.nrst.recognised <;> simp

/-- RETURN_FROM_BACKUP without a hold mark, or with nRST low, is the return alone (R187). -/
theorem exec_returnFromBackup {s : State} (h : s.control.op = .backup)
    (hrest : s.control.holdMark = false ∨ s.control.nrst.recognised = false) :
    exec .returnFromBackup s = .next s.returnEvent := by
  have hnot : ¬(s.control.holdMark = true ∧ s.control.nrst.recognised = true) := by
    rcases hrest with hmark | hlow
    · simp [hmark]
    · simp [hlow]
  show Host.Outcome.next s.returnFromBackupEvent = _
  rw [State.returnFromBackupEvent, if_pos h, State.returnFromBackup, if_neg (mt s.returnEvent_releases_iff.1 hnot)]

/-- RETURN_FROM_BACKUP with the hold mark set and nRST high is followed by the release (R187; log entry 10). -/
theorem exec_returnFromBackup_release {s : State} (h : s.control.op = .backup) (hmark : s.control.holdMark = true)
    (hhigh : s.control.nrst.recognised = true) : exec .returnFromBackup s = exec .release s.returnEvent := by
  have hrelease := s.returnEvent_releases_iff.2 ⟨hmark, hhigh⟩
  have hheld : ¬s.returnEvent.control.op = .held := by simp [hrelease.1]
  show Host.Outcome.next s.returnFromBackupEvent = Host.Outcome.next s.returnEvent.releaseEvent
  rw [State.returnFromBackupEvent, if_pos h, State.returnFromBackup, if_pos hrelease, State.releaseEvent, if_neg hheld,
    if_pos hrelease]

/-- Settles O58: each command by its own lemma above, and the return by what it does to each field. -/
theorem resetsAndReturnComplete : Obligations.ResetsAndReturnComplete := by
  intro s tag rest
  refine ⟨fun hop => ?release, fun hready => exec_deviceResetLink hready, fun hready hwd => ?full,
    fun hready hwd => exec_deviceResetFull_holding hready hwd, fun scope hready hscope => exec_deviceReset_scope hready hscope,
    fun hop => ⟨s.returnEvent, exec_returnFromBackup hop, exec_returnFromBackup_release hop, ?control, s.returnEvent_link,
      s.returnEvent_time, s.returnEvent_counters, s.returnEvent_settings, s.returnEvent_sched,
      s.returnEvent_notify_pending.1, s.returnEvent_notify_counts.1, s.returnEvent_notify_counts.2,
      s.returnEvent_notify_pending.2, s.returnEvent_reforced, ⟨_, rfl, s.returnEvent_journal⟩, fun hwd => ?kept,
      fun hwd => ?rearm, s.returnEvent_sense⟩⟩
  case release =>
    refine ⟨(s.recognise true).release .pin, ?_, by rw [State.release_control], by rw [State.release_link]; rfl⟩
    show Host.Outcome.next s.releaseEvent = _
    rw [State.releaseEvent, if_pos hop]
  case full =>
    exact ⟨_, exec_deviceResetFull hready hwd, by rw [State.recompute_control, State.release_control],
      by rw [State.recompute_link, State.release_link]⟩
  case control =>
    rw [State.returnEvent_control]
    unfold State.returnOp
    cases s.control.nrst.recognised <;> rfl
  case kept => rw [State.returnEvent_wd, if_neg hwd]
  case rearm =>
    rw [State.returnEvent_wd, if_pos hwd]
    rfl

end Sys2Proof.Machine
end

section
namespace Sys2Proof.Machine

-- One theorem after another, as in the tests: a thread for each proof takes more memory than the check gives.
set_option Elab.async false

/-! # Well-formed commands (log entry 26) -/

/-- A number below the bound is one of them. -/
theorem finOf_of_lt {n k : Nat} (h : k < n) : finOf n k = some ⟨k, h⟩ := dif_pos h

/-- A number at or above the bound is none of them. -/
theorem finOf_of_le {n k : Nat} (h : n ≤ k) : finOf n k = none := dif_neg (Nat.not_lt.2 h)

/-- A number of the range names itself. -/
@[simp] theorem finOf_val {n : Nat} (i : Fin n) : finOf n i.val = some i := finOf_of_lt i.isLt

/-- A command that completes for each unit of the part, and faults for a number that names none, completes exactly for the
numbers below the count of units (log entry 26). -/
theorem completes_iff_lt {n k : Nat} {o : Host.Outcome State Fault Refusal} {r : Fault}
    (hunit : ∀ i : Fin n, finOf n k = some i → ∃ t, o = .next t) (hnone : finOf n k = none → o = .fault r) :
    (∃ t, o = .next t) ↔ decide (k < n) = true := by
  rw [decide_eq_true_iff]
  constructor
  · rintro ⟨t, ht⟩
    by_contra hk
    cases (hnone (finOf_of_le (Nat.not_lt.1 hk))).symm.trans ht
  · intro hk
    exact hunit _ (finOf_of_lt hk)

/-- Settles O2: the four commands with a unit by the unit they name; every other command answers a next state outright. -/
theorem wellFormedCommandsComplete : Obligations.WellFormedCommandsComplete := by
  intro i s
  cases i with
  | confirmedChange line =>
    exact completes_iff_lt (r := .noSuchLine) (fun n hn => ⟨_, by simp only [exec, execConfirmedChange, hn]; rfl⟩)
      fun hn => by simp only [exec, execConfirmedChange, hn]
  | expiry counter =>
    exact completes_iff_lt (r := .noSuchCounter) (fun n hn => ⟨_, by simp only [exec, execExpiry, hn]; rfl⟩)
      fun hn => by simp only [exec, execExpiry, hn]
  | revert line =>
    exact completes_iff_lt (r := .noSuchLine) (fun n hn => ⟨_, by simp only [exec, execRevert, hn]; rfl⟩)
      fun hn => by simp only [exec, execRevert, hn]
  | fire entry =>
    exact completes_iff_lt (r := .noSuchEntry) (fun n hn => ⟨_, by simp only [exec, execFire, hn]; rfl⟩)
      fun hn => by simp only [exec, execFire, hn]
  | _ => exact iff_of_true ⟨_, rfl⟩ rfl

end Sys2Proof.Machine
end

section
namespace Sys2Proof.Machine

-- One theorem after another, as in the tests: a thread for each proof takes more memory than the check gives.
set_option Elab.async false

/-! # The bytes of an action (R68) -/

/-- A number that names a unit is that unit's number. -/
theorem val_of_finOf {n k : Nat} {i : Fin n} (h : finOf n k = some i) : i.val = k := by
  unfold finOf at h
  split at h
  · cases h; rfl
  · cases h

/-- The two bytes of a 16-bit field, joined again, are the field (R32). -/
theorem extract_append_extract (v : BitVec 16) : (v.extractLsb' 8 8 : Byte) ++ (v.extractLsb' 0 8 : Byte) = v := by
  rw [BitVec.extractLsb'_append_extractLsb'_eq_extractLsb' (by rfl)]
  simp

/-- The two bytes of a 16-bit field that two bytes make are these two (R32). -/
theorem be16_append (a b : Byte) : be16 (a ++ b) = [a, b] := by
  rw [be16, BitVec.extractLsb'_append_eq_left, BitVec.extractLsb'_append_eq_right]

/-- A flag's byte is 1 exactly when it is set. -/
theorem bit_beq_one (b : Bool) : (bit b == 1#8) = b := by cases b <;> rfl

/-- A flag's byte is at most 1. -/
theorem toNat_bit_le (b : Bool) : (bit b).toNat ≤ 1 := by cases b <;> decide

/-- A byte of at most 1 is the byte of its being 1. -/
theorem bit_of_le {b : Byte} (h : b.toNat ≤ 1) : bit (b == 1#8) = b := by
  have h01 : b = 0 ∨ b = 1 := by bv_omega
  rcases h01 with rfl | rfl <;> rfl

/-- The number of a byte as a byte is the byte. -/
theorem byteOf_toNat (b : Byte) : byteOf b.toNat = b := BitVec.ofNat_toNat _ _ |>.trans (BitVec.setWidth_eq _)

/-- The byte of a unit's number is that number: no part has more units than a byte can name. -/
theorem toNat_byteOf_val {n : Nat} (hn : n ≤ 256) (i : Fin n) : (byteOf i.val).toNat = i.val := toNat_byteOf (by omega)

/-- The line and level byte of OUTPUT_PULSE (R68): the line in the low four bits, the level in bit 4. -/
def pulseByte (line : Nat) (level : Bool) : Byte := byteOf line ||| (bit level <<< 4)

/-- The fields of the line and level byte of OUTPUT_PULSE (R68). -/
theorem pulseByte_fields (line : Fin 6) (level : Bool) :
    ((pulseByte line.val level).extractLsb' 0 4).toNat = line.val ∧ (pulseByte line.val level).extractLsb' 5 3 = 0 ∧
      (pulseByte line.val level)[4] = level := by
  revert line level
  decide

/-- A byte whose upper three bits are 0 is its low four bits and bit 4 (R68). -/
theorem pulseByte_of_fields (b : Byte) (h : b.extractLsb' 5 3 = 0) :
    pulseByte (b.extractLsb' 0 4).toNat (b.getLsbD 4) = b := by
  revert b
  decide +kernel

/-- The four bytes of an admitted action decode to it (R68). -/
theorem decodeAction_encode {a : Action} (h : a.Admitted) :
    ∃ b0 b1 b2 b3, a.encode = [b0, b1, b2, b3] ∧ decodeAction b0 b1 b2 b3 = some a := by
  cases a with
  | journal t =>
    refine ⟨_, _, _, _, rfl, ?_⟩
    simp [decodeAction, extract_append_extract]
  | notify => exact ⟨_, _, _, _, rfl, rfl⟩
  | outputLevel line level =>
    refine ⟨_, _, _, _, rfl, ?_⟩
    simp [decodeAction, toNat_byteOf_val, toNat_bit_le, bit_beq_one]
  | outputPulse line level width =>
    obtain ⟨hline, hzero, hlevel⟩ := pulseByte_fields line level
    have hwidth : ¬width = 0#16 := h
    refine ⟨4, pulseByte line.val level, _, _, rfl, ?_⟩
    simp [decodeAction, hline, hzero, hlevel, extract_append_extract, hwidth]
  | counterStart n force =>
    refine ⟨_, _, _, _, rfl, ?_⟩
    simp [decodeAction, toNat_byteOf_val, toNat_bit_le, bit_beq_one]
  | counterStop n =>
    refine ⟨_, _, _, _, rfl, ?_⟩
    simp [decodeAction, toNat_byteOf_val]

/-- Four bytes that decode to an action are its own, and the action is admitted (R68). -/
theorem encode_decodeAction {b0 b1 b2 b3 : Byte} {a : Action} (h : decodeAction b0 b1 b2 b3 = some a) :
    a.encode = [b0, b1, b2, b3] ∧ a.Admitted := by
  have kind : ∀ {k : Byte}, b0.toNat = k.toNat → k = b0 := fun hk => (BitVec.eq_of_toNat_eq hk).symm
  have named : ∀ {n : Nat} {b : Byte} {i : Fin n}, finOf n b.toNat = some i → byteOf i.val = b := fun hi => by
    rw [val_of_finOf hi, byteOf_toNat]
  unfold decodeAction at h
  split at h
  next h0 =>
    obtain rfl := kind (k := 1) h0
    obtain ⟨hzero, heq⟩ := Option.ite_none_right_eq_some.1 h
    cases heq
    simp [Action.encode, Action.Admitted, be16_append, hzero]
  next h0 =>
    obtain rfl := kind (k := 2) h0
    obtain ⟨⟨h1, h2, h3⟩, heq⟩ := Option.ite_none_right_eq_some.1 h
    cases heq
    simp [Action.encode, Action.Admitted, h1, h2, h3]
  next h0 =>
    obtain rfl := kind (k := 3) h0
    split at h
    next line hline =>
      obtain ⟨⟨hlevel, hzero⟩, heq⟩ := Option.ite_none_right_eq_some.1 h
      cases heq
      simp [Action.encode, Action.Admitted, named hline, bit_of_le hlevel, hzero]
    next => cases h
  next h0 =>
    obtain rfl := kind (k := 4) h0
    split at h
    next line hline =>
      obtain ⟨⟨hbits, hwidth⟩, heq⟩ := Option.ite_none_right_eq_some.1 h
      cases heq
      have hbyte := pulseByte_of_fields b1 hbits
      rw [← val_of_finOf hline] at hbyte
      refine ⟨?_, hwidth⟩
      show 4 :: pulseByte line.val (b1.getLsbD 4) :: be16 (b2 ++ b3) = _
      rw [hbyte, be16_append]
    next => cases h
  next h0 =>
    obtain rfl := kind (k := 5) h0
    split at h
    next counter hcounter =>
      obtain ⟨⟨hforce, hzero⟩, heq⟩ := Option.ite_none_right_eq_some.1 h
      cases heq
      simp [Action.encode, Action.Admitted, named hcounter, bit_of_le hforce, hzero]
    next => cases h
  next h0 =>
    obtain rfl := kind (k := 6) h0
    split at h
    next counter hcounter =>
      obtain ⟨⟨h2, h3⟩, heq⟩ := Option.ite_none_right_eq_some.1 h
      cases heq
      simp [Action.encode, Action.Admitted, named hcounter, h2, h3]
    next => cases h
  next => cases h

/-- Settles O33: by induction on the list, four bytes to an action. -/
theorem actionsRoundTrip : Obligations.ActionsRoundTrip := by
  refine ⟨fun actions => ?_, fun b0 b1 b2 b3 a => encode_decodeAction⟩
  induction actions with
  | nil => exact fun _ => rfl
  | cons a rest ih =>
    intro h
    obtain ⟨ha, hrest⟩ := List.forall_mem_cons.1 h
    obtain ⟨b0, b1, b2, b3, hencode, hdecode⟩ := decodeAction_encode ha
    rw [List.flatMap_cons, hencode]
    simp only [List.cons_append, List.nil_append, decodeActions, hdecode, ih hrest]

end Sys2Proof.Machine
end

section
namespace Sys2Proof.Machine

-- One theorem after another, as in the tests: a thread for each proof takes more memory than the check gives.
set_option Elab.async false

/-! # The advance of a fired entry (R84 to R87) -/

/-- A stamp is a count of at most 2⁴² - 1 ticks (R53). -/
theorem Stamp.toNat_le (t : Stamp) : BitVec.toNat t ≤ 2 ^ 42 - 1 := by
  have := BitVec.isLt t
  omega

/-- A count of ticks up to the epoch end is the count of a stamp (R53). -/
theorem toNat_stamp {n : Nat} (h : n ≤ 2 ^ 42 - 1) : (BitVec.ofNat 42 n).toNat = n := by
  rw [BitVec.toNat_ofNat]
  omega

/-- What passing over some occurrences leaves of a budget (R85, R86). -/
theorem toNat_budgetLeft (b : BitVec 16) (n : Nat) : (BitVec.ofNat 16 (b.toNat - n)).toNat = b.toNat - n := by
  rw [BitVec.toNat_ofNat]
  omega

/-- A count of ticks past 2⁴² - 1 lies beyond the epoch end. -/
theorem beyondEnd_of_lt {n : Nat} (h : 2 ^ 42 - 1 < n) : beyondEnd n = true := by rw [beyondEnd_eq, decide_eq_true h]

/-- A count of ticks up to 2⁴² - 1 does not lie beyond the epoch end. -/
theorem beyondEnd_of_le {n : Nat} (h : n ≤ 2 ^ 42 - 1) : beyondEnd n = false := by
  rw [beyondEnd_eq, decide_eq_false (Nat.not_lt.2 h)]

section Advance

variable {e : Entry} {p : Span} {clock : Stamp}

/-- An entry without a period is SPENT (R84 step 1). -/
theorem Entry.advance_of_no_period (hp : e.period = none) : e.advance clock = e.spend false := by
  simp only [Entry.advance, hp]

/-- A budget that is used up makes the entry SPENT (R84 step 2). -/
theorem Entry.advance_of_used_up (hp : e.period = some p) (hb : e.budget = some 0) : e.advance clock = e.spend false := by
  simp only [Entry.advance, hp, hb, if_true]

/-- A next occurrence beyond the epoch end makes the entry SPENT with the note (R84 step 3, R87). -/
theorem Entry.advance_beyond (hp : e.period = some p) (hb : e.budget ≠ some 0) (hend : 2 ^ 42 - 1 < e.due.toNat + p.toNat) :
    e.advance clock = e.spend true := by
  simp only [Entry.advance, hp, if_neg hb, beyondEnd_of_lt hend, if_true]

/-- An entry that keeps up goes to its next occurrence (R84 step 4). -/
theorem Entry.advance_keeps_up (hp : e.period = some p) (hb : e.budget ≠ some 0)
    (hend : e.due.toNat + p.toNat ≤ 2 ^ 42 - 1) (hup : clock.toNat < e.due.toNat + p.toNat) :
    e.advance clock = e.dueAt (e.due.toNat + p.toNat) := by
  simp only [Entry.advance, hp, if_neg hb, beyondEnd_of_le hend, Bool.false_eq_true, if_false, if_pos hup]

/-- An entry that is behind advances under its policy (R84 step 5). -/
theorem Entry.advance_behind (hp : e.period = some p) (hb : e.budget ≠ some 0) (hbehind : e.due.toNat + p.toNat ≤ clock.toNat) :
    e.advance clock = if e.burst then e.burstOn p.toNat ((clock.toNat - e.due.toNat) / p.toNat)
      else e.skip p.toNat ((clock.toNat - e.due.toNat) / p.toNat) := by
  have hend := hbehind.trans (Stamp.toNat_le clock)
  simp only [Entry.advance, hp, if_neg hb, beyondEnd_of_le hend, Bool.false_eq_true, if_false, if_neg (Nat.not_lt.2 hbehind)]

/-! ## The occurrences at or before the clock (R84 step 5) -/

/-- The last of `k` occurrences is reached by the clock and the one after it is not (R84). -/
theorem occurrences_bounds {d c p k : Nat} (hp : 0 < p) (hd : d ≤ c) (hk : k = (c - d) / p) :
    d + k * p ≤ c ∧ c < d + (k + 1) * p := by
  have hle : k * p ≤ c - d := hk ▸ Nat.div_mul_le_self (c - d) p
  have hlt : c - d < (k + 1) * p := hk ▸ Nat.lt_mul_of_div_lt (Nat.lt_succ_self _) hp
  omega

/-- A BURST entry at most 64 behind goes to its next occurrence, with or without a budget (R86). -/
theorem Entry.burstOn_of_le {p k : Nat} (hk : k ≤ 64) : e.burstOn p k = e.dueAt (e.due.toNat + p) := if_pos hk

/-! ## What is passed over without a budget -/

section NoBudget

variable {p k : Nat} (hb : e.budget = none)
include hb

/-- Without a budget there is none to set to 0 (R84). -/
theorem Entry.spend_of_no_budget (ended : Bool) :
    e.spend ended = { e with state := .spent, epochEnded := e.epochEnded || ended } := by
  simp [Entry.spend, hb]

/-- A SKIP entry whose next occurrence lies beyond the epoch end is SPENT with the note (R85, R87). -/
theorem Entry.skip_of_no_budget_beyond (hend : 2 ^ 42 - 1 < e.due.toNat + (k + 1) * p) :
    e.skip p k = { e with state := .spent, missed := satAdd e.missed k, epochEnded := true } := by
  simp [Entry.skip, hb, beyondEnd_of_lt hend, Entry.passOver, Entry.spend]

/-- A SKIP entry that goes on stands at the first occurrence later than the clock (R85). -/
theorem Entry.skip_of_no_budget (hend : e.due.toNat + (k + 1) * p ≤ 2 ^ 42 - 1) :
    e.skip p k = { e with due := BitVec.ofNat 42 (e.due.toNat + (k + 1) * p), missed := satAdd e.missed k } := by
  simp [Entry.skip, hb, beyondEnd_of_le hend, Entry.passOver, Entry.dueAt]

/-- A BURST entry more than 64 behind passes over all but the last 64 (R86). -/
theorem Entry.burstOn_of_no_budget (hk : 64 < k) :
    e.burstOn p k =
      { e with due := BitVec.ofNat 42 (e.due.toNat + (k - 63) * p), missed := satAdd e.missed (k - 64) } := by
  simp [Entry.burstOn, hb, Nat.not_le.2 hk, Entry.passOver, Entry.dueAt]

end NoBudget

/-! ## What is passed over with a budget -/

section Budget

variable {p k : Nat} {b : BitVec 16} (hb : e.budget = some b)
include hb

/-- A budget is 0 once the entry is SPENT (R84). -/
theorem Entry.spend_of_budget (ended : Bool) :
    e.spend ended = { e with state := .spent, budget := some 0, epochEnded := e.epochEnded || ended } := by
  simp [Entry.spend, hb]

/-- Passing over uses up a budget of at most that many (R85, R86). -/
theorem Entry.spend_passOver_of_budget (n : Nat) (ended : Bool) :
    (e.passOver n).spend ended =
      { e with state := .spent, missed := satAdd e.missed n, budget := some 0, epochEnded := e.epochEnded || ended } := by
  simp [Entry.passOver, Entry.spend, hb]

/-- A SKIP entry that passes over its whole budget is SPENT without the note (R85). -/
theorem Entry.skip_of_budget_used_up (hk : b.toNat ≤ k) :
    e.skip p k = { e with state := .spent, missed := satAdd e.missed b.toNat, budget := some 0 } := by
  simp only [Entry.skip, hb, if_pos hk, Entry.spend_passOver_of_budget hb, Bool.or_false]

/-- A SKIP entry with budget left whose next occurrence lies beyond the epoch end is SPENT with the note (R85, R87). -/
theorem Entry.skip_of_budget_beyond (hk : k < b.toNat) (hend : 2 ^ 42 - 1 < e.due.toNat + (k + 1) * p) :
    e.skip p k = { e with state := .spent, missed := satAdd e.missed k, budget := some 0, epochEnded := true } := by
  simp only [Entry.skip, hb, if_neg (Nat.not_le.2 hk), beyondEnd_of_lt hend, if_true, Entry.spend_passOver_of_budget hb,
    Bool.or_true]

/-- A SKIP entry with budget left stands at the first occurrence later than the clock (R85). -/
theorem Entry.skip_of_budget (hk : k < b.toNat) (hend : e.due.toNat + (k + 1) * p ≤ 2 ^ 42 - 1) :
    e.skip p k = { e with
      due := BitVec.ofNat 42 (e.due.toNat + (k + 1) * p)
      missed := satAdd e.missed k
      budget := some (BitVec.ofNat 16 (b.toNat - k)) } := by
  simp [Entry.skip, hb, Nat.not_le.2 hk, beyondEnd_of_le hend, Entry.passOver, Entry.dueAt]

/-- A BURST entry that passes over its whole budget is SPENT without the note (R86). -/
theorem Entry.burstOn_of_budget_used_up (hk : 64 < k) (hused : b.toNat ≤ k - 64) :
    e.burstOn p k = { e with state := .spent, missed := satAdd e.missed b.toNat, budget := some 0 } := by
  have hzero : (e.passOver b.toNat).budget = some 0 := by simp [Entry.passOver, hb]
  simp only [Entry.burstOn, if_neg (Nat.not_le.2 hk), hb, Nat.min_eq_right hused, if_pos hzero,
    Entry.spend_passOver_of_budget hb, Bool.or_false]

/-- A BURST entry with budget left keeps the last 64 occurrences (R86). -/
theorem Entry.burstOn_of_budget (hk : 64 < k) (hleft : k - 64 < b.toNat) :
    e.burstOn p k = { e with
      due := BitVec.ofNat 42 (e.due.toNat + (k - 63) * p)
      missed := satAdd e.missed (k - 64)
      budget := some (BitVec.ofNat 16 (b.toNat - (k - 64))) } := by
  have hpass : (e.passOver (k - 64)).budget = some (BitVec.ofNat 16 (b.toNat - (k - 64))) := by simp [Entry.passOver, hb]
  have hne : BitVec.ofNat 16 (b.toNat - (k - 64)) ≠ 0 := by
    intro h
    have := congrArg BitVec.toNat h
    rw [toNat_budgetLeft] at this
    exact Nat.sub_ne_zero_of_lt hleft this
  have hne' : ¬(e.passOver (k - 64)).budget = some 0 := by
    rw [hpass]
    exact fun h => hne (Option.some.inj h)
  simp only [Entry.burstOn, if_neg (Nat.not_le.2 hk), hb, Nat.min_eq_left hleft.le, if_neg hne']
  simp [Entry.passOver, Entry.dueAt, hb]

end Budget

end Advance

/-! ## The clauses of the catch-up -/

/-- The advance of an entry without a budget, by how many occurrences the clock has reached (R84 to R87). -/
theorem Entry.advance_no_budget {e : Entry} {p : Span} {clock : Stamp} {k : Nat} (hp : e.period = some p) (hp0 : 0 < p.toNat)
    (hb : e.budget = none) (hdue : e.due.toNat ≤ clock.toNat) (hk : k = (clock.toNat - e.due.toNat) / p.toNat) :
    (2 ^ 42 - 1 < e.due.toNat + p.toNat → e.advance clock = { e with state := .spent, epochEnded := true }) ∧
    (e.due.toNat + p.toNat ≤ 2 ^ 42 - 1 → clock.toNat < e.due.toNat + p.toNat →
      ∃ due : Stamp, due.toNat = e.due.toNat + p.toNat ∧ e.advance clock = { e with due := due }) ∧
    (e.due.toNat + p.toNat ≤ clock.toNat → e.burst = false →
      (2 ^ 42 - 1 < e.due.toNat + (k + 1) * p.toNat →
        e.advance clock = { e with state := .spent, missed := satAdd e.missed k, epochEnded := true }) ∧
      (e.due.toNat + (k + 1) * p.toNat ≤ 2 ^ 42 - 1 →
        ∃ due : Stamp, due.toNat = e.due.toNat + (k + 1) * p.toNat ∧
          e.advance clock = { e with due := due, missed := satAdd e.missed k })) ∧
    (e.due.toNat + p.toNat ≤ clock.toNat → e.burst = true →
      (k ≤ 64 → ∃ due : Stamp, due.toNat = e.due.toNat + p.toNat ∧ e.advance clock = { e with due := due }) ∧
      (64 < k → ∃ due : Stamp, due.toNat = e.due.toNat + (k - 63) * p.toNat ∧
        e.advance clock = { e with due := due, missed := satAdd e.missed (k - 64) })) := by
  have hne : e.budget ≠ some 0 := by simp [hb]
  have hclock := Stamp.toNat_le clock
  obtain ⟨hreached, -⟩ := occurrences_bounds hp0 hdue hk
  refine ⟨fun hend => ?beyond, fun hend hup => ?keepsUp, fun hbehind hskip => ?skip, fun hbehind hburst => ?burst⟩
  case beyond => rw [Entry.advance_beyond hp hne hend, Entry.spend_of_no_budget hb, Bool.or_true]
  case keepsUp => exact ⟨_, toNat_stamp hend, Entry.advance_keeps_up hp hne hend hup⟩
  case skip =>
    have hadvance := Entry.advance_behind hp hne hbehind
    rw [if_neg (by simp [hskip]), ← hk] at hadvance
    rw [hadvance]
    exact ⟨fun hend => Entry.skip_of_no_budget_beyond hb hend,
      fun hend => ⟨_, toNat_stamp hend, Entry.skip_of_no_budget hb hend⟩⟩
  case burst =>
    have hadvance := Entry.advance_behind hp hne hbehind
    rw [if_pos hburst, ← hk] at hadvance
    rw [hadvance]
    refine ⟨fun hle => ⟨_, toNat_stamp (hbehind.trans hclock), Entry.burstOn_of_le hle⟩,
      fun hgt => ⟨_, toNat_stamp ?_, Entry.burstOn_of_no_budget hb hgt⟩⟩
    have := Nat.mul_le_mul_right p.toNat (Nat.sub_le k 63)
    omega

/-- The advance of an entry with budget left, by how many occurrences the clock has reached (R84 to R87). -/
theorem Entry.advance_budget {e : Entry} {p : Span} {clock : Stamp} {b : BitVec 16} {k : Nat} (hp : e.period = some p)
    (hp0 : 0 < p.toNat) (hb : e.budget = some b) (hb0 : b ≠ 0) (hdue : e.due.toNat ≤ clock.toNat)
    (hk : k = (clock.toNat - e.due.toNat) / p.toNat) :
    (2 ^ 42 - 1 < e.due.toNat + p.toNat →
      e.advance clock = { e with state := .spent, budget := some 0, epochEnded := true }) ∧
    (e.due.toNat + p.toNat ≤ 2 ^ 42 - 1 → clock.toNat < e.due.toNat + p.toNat →
      ∃ due : Stamp, due.toNat = e.due.toNat + p.toNat ∧ e.advance clock = { e with due := due }) ∧
    (e.due.toNat + p.toNat ≤ clock.toNat → e.burst = false →
      (b.toNat ≤ k →
        e.advance clock = { e with state := .spent, missed := satAdd e.missed b.toNat, budget := some 0 }) ∧
      (k < b.toNat → 2 ^ 42 - 1 < e.due.toNat + (k + 1) * p.toNat →
        e.advance clock =
          { e with state := .spent, missed := satAdd e.missed k, budget := some 0, epochEnded := true }) ∧
      (k < b.toNat → e.due.toNat + (k + 1) * p.toNat ≤ 2 ^ 42 - 1 →
        ∃ (due : Stamp) (left : BitVec 16), due.toNat = e.due.toNat + (k + 1) * p.toNat ∧ left.toNat = b.toNat - k ∧
          e.advance clock = { e with due := due, missed := satAdd e.missed k, budget := some left })) ∧
    (e.due.toNat + p.toNat ≤ clock.toNat → e.burst = true →
      (k ≤ 64 → ∃ due : Stamp, due.toNat = e.due.toNat + p.toNat ∧ e.advance clock = { e with due := due }) ∧
      (64 < k → b.toNat ≤ k - 64 →
        e.advance clock = { e with state := .spent, missed := satAdd e.missed b.toNat, budget := some 0 }) ∧
      (64 < k → k - 64 < b.toNat →
        ∃ (due : Stamp) (left : BitVec 16),
          due.toNat = e.due.toNat + (k - 63) * p.toNat ∧ left.toNat = b.toNat - (k - 64) ∧
          e.advance clock = { e with due := due, missed := satAdd e.missed (k - 64), budget := some left })) := by
  have hne : e.budget ≠ some 0 := by simpa [hb] using hb0
  have hclock := Stamp.toNat_le clock
  obtain ⟨hreached, -⟩ := occurrences_bounds hp0 hdue hk
  refine ⟨fun hend => ?beyond, fun hend hup => ?keepsUp, fun hbehind hskip => ?skip, fun hbehind hburst => ?burst⟩
  case beyond => rw [Entry.advance_beyond hp hne hend, Entry.spend_of_budget hb, Bool.or_true]
  case keepsUp => exact ⟨_, toNat_stamp hend, Entry.advance_keeps_up hp hne hend hup⟩
  case skip =>
    have hadvance := Entry.advance_behind hp hne hbehind
    rw [if_neg (by simp [hskip]), ← hk] at hadvance
    rw [hadvance]
    exact ⟨Entry.skip_of_budget_used_up hb, Entry.skip_of_budget_beyond hb,
      fun hleft hend => ⟨_, _, toNat_stamp hend, toNat_budgetLeft b k, Entry.skip_of_budget hb hleft hend⟩⟩
  case burst =>
    have hadvance := Entry.advance_behind hp hne hbehind
    rw [if_pos hburst, ← hk] at hadvance
    rw [hadvance]
    refine ⟨fun hle => ⟨_, toNat_stamp (hbehind.trans hclock), Entry.burstOn_of_le hle⟩,
      Entry.burstOn_of_budget_used_up hb,
      fun hgt hleft => ⟨_, _, toNat_stamp ?_, toNat_budgetLeft b _, Entry.burstOn_of_budget hb hgt hleft⟩⟩
    have := Nat.mul_le_mul_right p.toNat (Nat.sub_le k 63)
    omega

/-- Where a SKIP entry without a budget stands after its advance (R84, R85, R87). -/
theorem Entry.advance_skip_stands {e : Entry} {p : Span} {clock : Stamp} (hstate : e.state = .armed) (hp : e.period = some p)
    (hp0 : 0 < p.toNat) (hb : e.budget = none) (hdue : e.due.toNat ≤ clock.toNat) (hskip : e.burst = false) :
    ((e.advance clock).state = .spent ∧ (e.advance clock).epochEnded = true ∧ (e.advance clock).due = e.due ∧
      2 ^ 42 - 1 < e.due.toNat + ((clock.toNat - e.due.toNat) / p.toNat + 1) * p.toNat) ∨
    ((e.advance clock).state = .armed ∧ clock.toNat < (e.advance clock).due.toNat ∧
      (e.advance clock).due.toNat ≤ clock.toNat + p.toNat ∧
      ∃ k, (e.advance clock).due.toNat = e.due.toNat + (k + 1) * p.toNat ∧
        (e.advance clock).missed = satAdd e.missed k) := by
  obtain ⟨k, hk⟩ : ∃ k, k = (clock.toNat - e.due.toNat) / p.toNat := ⟨_, rfl⟩
  obtain ⟨hbeyond, hkeepsUp, hbehind, -⟩ := Entry.advance_no_budget hp hp0 hb hdue hk
  obtain ⟨hreached, hnext⟩ := occurrences_bounds hp0 hdue hk
  have hsucc : (k + 1) * p.toNat = k * p.toNat + p.toNat := Nat.succ_mul k p.toNat
  rw [← hk]
  by_cases hend : 2 ^ 42 - 1 < e.due.toNat + p.toNat
  · refine .inl ?_
    rw [hbeyond hend]
    exact ⟨rfl, rfl, rfl, by omega⟩
  by_cases hup : clock.toNat < e.due.toNat + p.toNat
  · obtain ⟨due, hnew, hadvance⟩ := hkeepsUp (Nat.not_lt.1 hend) hup
    rw [hadvance]
    exact .inr ⟨hstate, by rw [hnew]; exact hup, by rw [hnew]; omega, 0, by simp [hnew], by simp⟩
  obtain ⟨hskipEnd, hskipOn⟩ := hbehind (Nat.not_lt.1 hup) hskip
  by_cases hskipped : 2 ^ 42 - 1 < e.due.toNat + (k + 1) * p.toNat
  · refine .inl ?_
    rw [hskipEnd hskipped]
    exact ⟨rfl, rfl, rfl, hskipped⟩
  · obtain ⟨due, hnew, hadvance⟩ := hskipOn (Nat.not_lt.1 hskipped)
    rw [hadvance]
    exact .inr ⟨hstate, by rw [hnew]; exact hnext, by rw [hnew]; omega, k, hnew, rfl⟩

/-- Where a BURST entry without a budget that is behind stands after its advance (R84, R86). -/
theorem Entry.advance_burst_stands {e : Entry} {p : Span} {clock : Stamp} (hstate : e.state = .armed) (hp : e.period = some p)
    (hp0 : 0 < p.toNat) (hb : e.budget = none) (hburst : e.burst = true) (hbehind : e.due.toNat + p.toNat ≤ clock.toNat) :
    (e.advance clock).state = .armed ∧ (e.advance clock).due.toNat ≤ clock.toNat ∧
    clock.toNat < (e.advance clock).due.toNat + 64 * p.toNat ∧
    ∃ k, (e.advance clock).due.toNat = e.due.toNat + (k + 1) * p.toNat ∧
      (e.advance clock).missed = satAdd e.missed k ∧
      (0 < k → (e.advance clock).due.toNat + 63 * p.toNat ≤ clock.toNat) := by
  obtain ⟨k, hk⟩ : ∃ k, k = (clock.toNat - e.due.toNat) / p.toNat := ⟨_, rfl⟩
  have hdue : e.due.toNat ≤ clock.toNat := by omega
  obtain ⟨-, -, -, hclauses⟩ := Entry.advance_no_budget hp hp0 hb hdue hk
  obtain ⟨hfew, hmany⟩ := hclauses hbehind hburst
  obtain ⟨hreached, hnext⟩ := occurrences_bounds hp0 hdue hk
  rcases le_or_gt k 64 with hle | hgt
  · obtain ⟨due, hnew, hadvance⟩ := hfew hle
    have hmul : (k + 1) * p.toNat ≤ 65 * p.toNat := Nat.mul_le_mul_right _ (by omega)
    rw [hadvance]
    exact ⟨hstate, by rw [hnew]; exact hbehind, by rw [hnew]; omega, 0, by simp [hnew], by simp, nofun⟩
  · obtain ⟨due, hnew, hadvance⟩ := hmany hgt
    obtain ⟨j, rfl⟩ : ∃ j, k = j + 64 := ⟨k - 64, by omega⟩
    have hj : j + 64 - 63 = j + 1 := by omega
    rw [hj] at hnew
    rw [hadvance]
    simp only [Nat.add_mul] at *
    exact ⟨hstate, by rw [hnew]; omega, by rw [hnew]; omega, j, hnew, by simp, fun _ => by rw [hnew]; omega⟩

/-- Settles O32: each clause by the advance with and without a budget; a used-up budget and a missing period end it outright. -/
theorem catchUp : Obligations.CatchUp := by
  refine ⟨fun e p clock hstate hp hp16 hb hdue => ⟨fun hskip => ?_, fun hburst hbehind => ?_⟩,
    fun e p clock k hstate hp hp16 hb hdue hk => ?_, fun e clock hp => ?_, fun e p clock hp hb => ?_,
    fun e p clock b k hstate hp hp16 hb hb0 hdue hk => ?_⟩
  · exact Entry.advance_skip_stands hstate hp (by omega) hb hdue hskip
  · exact Entry.advance_burst_stands hstate hp (by omega) hb hburst hbehind
  · exact Entry.advance_no_budget hp (by omega) hb hdue hk
  · rw [Entry.advance_of_no_period hp, Entry.spend, Bool.or_false]
  · rw [Entry.advance_of_used_up hp hb, Entry.spend_of_budget hb, Bool.or_false, ← hb]
  · exact Entry.advance_budget hp (by omega) hb hb0 hdue hk

end Sys2Proof.Machine
end

section
namespace Sys2Proof.Machine

-- One theorem after another, as in the tests: a thread for each proof takes more memory than the check gives.
set_option Elab.async false

/-! # The fire of an entry (R69, R70, R80 to R82, R90) -/

/-! ## When an entry is due -/

/-- An entry is due when it is ARMED, its stamp is reached, and in HELD and BACKUP it is eligible (R80, R89). -/
theorem State.isDue_iff (s : State) (e : Entry) :
    s.isDue e = true ↔ e.state = .armed ∧ e.due.toNat ≤ s.time.clock.toNat ∧
      (s.control.op = .active ∨ ((s.control.op = .held ∨ s.control.op = .backup) ∧ e.backupEligible = true)) := by
  unfold State.isDue
  cases s.control.op <;> simp [and_assoc]

/-- FIRE of a due entry is its fire (R80). -/
theorem exec_fire_due {s : State} {id : Fin 32} (h : s.isDue s.sched[id] = true) :
    exec (.fire id.val) s = .next (s.fireEntry id) := by
  show execFire id.val s = _
  simp only [execFire, finOf_val, h, if_true]

/-- FIRE of an entry that is not due does nothing (log entry 6). -/
theorem exec_fire_not_due {s : State} {id : Fin 32} (h : ¬s.isDue s.sched[id] = true) : exec (.fire id.val) s = .next s := by
  show execFire id.val s = _
  simp only [execFire, finOf_val, if_neg h]

/-! ## What a fire is made of (R81) -/

/-- The flags of the records of a fire (R81 step 3, R82). -/
def State.fireFlags (s : State) (id : Fin 32) : RecordFlags where
  epoch := false
  suppressed := s.sched[id].actions.any fun a => s.outcomeOf a == .suppressed
  refused := s.sched[id].actions.any fun a => s.outcomeOf a == .refused
  late := s.sched[id].firesLate s.time.clock

/-- One action of a fire that began in `s`, on what the action before it left (R81 step 3). -/
def State.fireAction (s : State) (id : Fin 32) (u : State) (a : Action) : State :=
  if s.outcomeOf a = .performed then u.act id (satAdd s.sched[id].fires 1) (s.fireFlags id) a else u

/-- The actions of a fire that began in `s`, one after another (R81 step 3). -/
def State.fireActions (s : State) (id : Fin 32) (u : State) (actions : List Action) : State :=
  actions.foldl (s.fireAction id) u

/-- An entry that has fired, before its advance (R81 steps 2, 4 and 5). -/
def State.firedEntry (s : State) (id : Fin 32) : Entry :=
  { s.sched[id] with
    fires := satAdd s.sched[id].fires 1
    lastFired := some s.time.clock
    refused := satAdd s.sched[id].refused (s.sched[id].actions.countP fun a => s.outcomeOf a == .refused)
    budget := s.sched[id].budget.map fun b => b - 1
    atOnce := false }

/-- An action takes nothing from the schedule's table (R69). -/
theorem State.act_setSched (s : State) (x : Vector Entry 32) (id : Fin 32) (fires : BitVec 16) (flags : RecordFlags)
    (a : Action) : (s.setSched x).act id fires flags a = (s.act id fires flags a).setSched x := by
  cases a <;> rfl

/-- The actions of a fire take nothing from the schedule's table (R69). -/
theorem State.fireActions_setSched (s u : State) (x : Vector Entry 32) (id : Fin 32) (actions : List Action) :
    s.fireActions id (u.setSched x) actions = (s.fireActions id u actions).setSched x := by
  induction actions generalizing u with
  | nil => rfl
  | cons a rest ih =>
    have hstep : s.fireAction id (u.setSched x) a = (s.fireAction id u a).setSched x := by
      unfold State.fireAction
      split
      · exact u.act_setSched x id _ _ a
      · rfl
    simp only [State.fireActions, List.foldl_cons, hstep] at ih ⊢
    exact ih _

/-- A fire is its actions, with the fired entry advanced in the table (R81). -/
theorem State.fireEntry_eq (s : State) (id : Fin 32) :
    s.fireEntry id = (s.fireActions id s s.sched[id].actions).setSched
      (s.sched.set id.val ((s.firedEntry id).advance s.time.clock)) := by
  unfold State.fireEntry
  simp only [List.any_map, List.countP_map, List.foldl_map]
  show State.modEntry (s.fireActions id (State.modEntry s id _) s.sched[id].actions) id _ = _
  rw [State.modEntry, State.modEntry, State.fireActions_setSched]
  simp [State.setSched, State.firedEntry, Function.comp_def]

/-! ## The entry that has fired -/

/-- What spending, passing over and going to another occurrence keep of an entry, the advance keeps (R84 to R86). -/
theorem Entry.advance_frame {β : Type} (g : Entry → β) (hspend : ∀ e ended, g (Entry.spend e ended) = g e)
    (hpass : ∀ e n, g (Entry.passOver e n) = g e) (hdue : ∀ e n, g (Entry.dueAt e n) = g e) (e : Entry) (clock : Stamp) :
    g (e.advance clock) = g e := by
  have hskip : ∀ p k, g (e.skip p k) = g e := by
    intro p k
    unfold Entry.skip
    dsimp only
    split
    · split <;> simp only [hspend, hdue, hpass]
    · split_ifs <;> simp only [hspend, hdue, hpass]
  have hburst : ∀ p k, g (e.burstOn p k) = g e := by
    intro p k
    unfold Entry.burstOn
    dsimp only
    split_ifs <;> simp only [hspend, hdue, hpass]
  unfold Entry.advance
  dsimp only
  split
  · exact hspend e false
  · split_ifs <;> simp only [hspend, hdue, hskip, hburst]

/-- The advance keeps the fire count (R84). -/
@[simp] theorem Entry.advance_fires (e : Entry) (clock : Stamp) : (e.advance clock).fires = e.fires :=
  Entry.advance_frame Entry.fires (fun _ _ => rfl) (fun _ _ => rfl) (fun _ _ => rfl) e clock

/-- The advance keeps the last-fired stamp (R84). -/
@[simp] theorem Entry.advance_lastFired (e : Entry) (clock : Stamp) : (e.advance clock).lastFired = e.lastFired :=
  Entry.advance_frame Entry.lastFired (fun _ _ => rfl) (fun _ _ => rfl) (fun _ _ => rfl) e clock

/-- The advance keeps the refused count (R84). -/
@[simp] theorem Entry.advance_refused (e : Entry) (clock : Stamp) : (e.advance clock).refused = e.refused :=
  Entry.advance_frame Entry.refused (fun _ _ => rfl) (fun _ _ => rfl) (fun _ _ => rfl) e clock

/-! ## What becomes of an action (R70, R90) -/

/-- What becomes of an output level (R70, R90). -/
theorem State.outcomeOf_outputLevel (s : State) (line : Fin 6) (level : Bool) :
    s.outcomeOf (.outputLevel line level) =
      if s.control.op ≠ .active then .suppressed
      else if s.outputs[line].owner ≠ .schedule ∨ s.outputs[line].forced = true then .refused else .performed := rfl

/-- An output action is refused in ACTIVE on a line that is forced or not the schedule's, and no other action is (R70). -/
theorem State.outcomeOf_refused_iff (s : State) (a : Action) :
    s.outcomeOf a = .refused ↔ s.control.op = .active ∧ ∃ line : Fin 6,
      ((∃ level, a = .outputLevel line level) ∨ ∃ level width, a = .outputPulse line level width) ∧
      (s.outputs[line].owner ≠ .schedule ∨ s.outputs[line].forced = true) := by
  unfold State.outcomeOf
  by_cases hop : s.control.op = .active
  · cases a with
    | journal userTag | notify | counterStart n force | counterStop n => simp [hop]
    | outputLevel line level | outputPulse line level width => simp [hop, imp_iff_not_or]
  · cases a <;> simp [hop]

/-- Outside ACTIVE every action but JOURNAL and NOTIFY is suppressed, and in ACTIVE none is (R90). -/
theorem State.outcomeOf_suppressed_iff (s : State) (a : Action) :
    s.outcomeOf a = .suppressed ↔ s.control.op ≠ .active ∧ a ≠ .notify ∧ ∀ userTag, a ≠ .journal userTag := by
  unfold State.outcomeOf
  by_cases hop : s.control.op = .active
  · cases a with
    | journal userTag | notify | counterStart n force | counterStop n => simp [hop]
    | outputLevel line level | outputPulse line level width =>
      simp only [hop, ne_eq, not_true_eq_false, if_false, false_and, iff_false]
      split_ifs <;> nofun
  · cases a <;> simp [hop]

/-- The SUPPRESSED flag of a fire (R81, R90). -/
theorem State.fireFlags_suppressed_iff (s : State) (id : Fin 32) :
    (s.fireFlags id).suppressed = true ↔ s.control.op ≠ .active ∧
      ∃ a ∈ s.sched[id].actions, a ≠ .notify ∧ ∀ userTag, a ≠ .journal userTag := by
  simp only [State.fireFlags, List.any_eq_true, beq_iff_eq, State.outcomeOf_suppressed_iff]
  exact ⟨fun ⟨a, ha, hop, h⟩ => ⟨hop, a, ha, h⟩, fun ⟨hop, a, ha, h⟩ => ⟨a, ha, hop, h⟩⟩

/-- The REFUSED flag of a fire (R70, R81). -/
theorem State.fireFlags_refused_iff (s : State) (id : Fin 32) :
    (s.fireFlags id).refused = true ↔ s.control.op = .active ∧ ∃ a ∈ s.sched[id].actions, ∃ line : Fin 6,
      ((∃ level, a = .outputLevel line level) ∨ ∃ level width, a = .outputPulse line level width) ∧
      (s.outputs[line].owner ≠ .schedule ∨ s.outputs[line].forced = true) := by
  simp only [State.fireFlags, List.any_eq_true, beq_iff_eq, State.outcomeOf_refused_iff]
  exact ⟨fun ⟨a, ha, hop, h⟩ => ⟨hop, a, ha, h⟩, fun ⟨hop, a, ha, h⟩ => ⟨a, ha, hop, h⟩⟩

/-- Flags that say of a fire what R81 and R82 say are its flags. -/
theorem State.fireFlags_eq {s : State} {id : Fin 32} {flags : RecordFlags} (hepoch : flags.epoch = false)
    (hsuppressed : flags.suppressed = true ↔ (s.fireFlags id).suppressed = true)
    (hrefused : flags.refused = true ↔ (s.fireFlags id).refused = true)
    (hlate : flags.late = true ↔ s.sched[id].atOnce = false ∧ s.sched[id].due.toNat + 1 < s.time.clock.toNat) :
    s.fireFlags id = flags := by
  obtain ⟨epoch, suppressed, refused, late⟩ := flags
  rw [← Entry.firesLate_iff, ← Bool.eq_iff_iff] at hlate
  rw [← Bool.eq_iff_iff] at hsuppressed hrefused
  simp only at hepoch hsuppressed hrefused hlate
  rw [hepoch, hsuppressed, hrefused, hlate]
  rfl

/-- The entry of a fire is the fired entry, advanced (R81). -/
theorem State.fireEntry_sched_self (s : State) (id : Fin 32) :
    (s.fireEntry id).sched[id] = (s.firedEntry id).advance s.time.clock := by
  simp [State.fireEntry_eq]

/-- A fire changes no other entry (R81). -/
theorem State.fireEntry_sched_of_ne (s : State) {id j : Fin 32} (h : j ≠ id) : (s.fireEntry id).sched[j] = s.sched[j] := by
  have hne : id.val ≠ j.val := fun hval => h (Fin.ext hval.symm)
  simp [State.fireEntry_eq, Vector.getElem_set_ne, hne]

/-- Settles O30: the entry is the fired entry advanced, and the rest is what a fire leaves alone. -/
theorem fireCountsAndStamps : Obligations.FireCountsAndStamps := by
  intro s id
  dsimp only
  rw [← State.isDue_iff]
  refine ⟨fun hdue => ⟨s.fireEntry id, s.firedEntry id, exec_fire_due hdue, ?fires, ?lastFired, fun hp => ?spent, ?fired,
    s.fireEntry_sched_self id, fun j hj => s.fireEntry_sched_of_ne hj, s.fireEntry_time id, s.fireEntry_link id,
    s.fireEntry_wd id, s.fireEntry_settings id, s.fireEntry_sense id, s.fireEntry_control id⟩, exec_fire_not_due⟩
  case fires =>
    rw [State.fireEntry_sched_self, Entry.advance_fires]
    rfl
  case lastFired =>
    rw [State.fireEntry_sched_self, Entry.advance_lastFired]
    rfl
  case spent =>
    rw [State.fireEntry_sched_self, Entry.advance_of_no_period (e := s.firedEntry id) hp]
    exact ⟨rfl, rfl⟩
  case fired =>
    rw [State.firedEntry]
    congr 2
    refine List.countP_congr fun a _ => ?_
    rw [beq_iff_eq, State.outcomeOf_refused_iff]
    cases a <;> simp

/-! ## The actions of a fire, one by one -/

/-- One action of a fire, on what the action before it left, is what the claims say of it (R69, R70, R90). -/
theorem State.fireAction_actionStep (s u : State) (id : Fin 32) (a : Action) :
    s.ActionStep id (s.fireFlags id) a u (s.fireAction id u a) := s.act_actionStep u id (s.fireFlags id) a

/-- The actions of a list up to the next are those before it and that one (R81 step 3). -/
theorem State.fireActions_take_succ {s : State} {id : Fin 32} {actions : List Action} {i : Nat} {a : Action}
    (h : actions[i]? = some a) (u : State) :
    s.fireActions id u (actions.take (i + 1)) = s.fireAction id (s.fireActions id u (actions.take i)) a := by
  rw [State.fireActions, State.fireActions, List.take_add_one, h, Option.toList_some, List.foldl_append]
  rfl

/-- A fire of one action is that action, with another table (R81). -/
theorem exec_fire_one {s : State} {id : Fin 32} {a : Action} (hdue : s.isDue s.sched[id] = true)
    (ha : s.sched[id].actions = [a]) :
    ∃ (u : State) (x : Vector Entry 32), exec (.fire id.val) s = .next (u.setSched x) ∧
      s.ActionStep id (s.fireFlags id) a s u ∧
      x[id].refused = satAdd s.sched[id].refused (if s.outcomeOf a = .refused then 1 else 0) := by
  refine ⟨s.fireAction id s a, s.sched.set id.val ((s.firedEntry id).advance s.time.clock), ?_,
    s.fireAction_actionStep s id a, ?_⟩
  · rw [exec_fire_due hdue, State.fireEntry_eq, ha]
    rfl
  · rw [Fin.getElem_fin, Vector.getElem_set_self, Entry.advance_refused, State.firedEntry, ha, List.countP_singleton]
    simp only [beq_iff_eq]

/-- A fire of an action and a JOURNAL after it appends its record to the journal that the fire began with, where the action is no
JOURNAL itself (R69). -/
theorem State.fireActions_journal_pair {s : State} {id : Fin 32} {a : Action} (ha : ∀ userTag, a ≠ .journal userTag)
    (userTag : BitVec 16) :
    (s.fireActions id s [a, .journal userTag]).journal =
      (s.append (.scheduleFire id userTag (satAdd s.sched[id].fires 1)) (s.fireFlags id)).journal := by
  have hjournal : (s.fireAction id s a).journal = s.journal := by
    unfold State.fireAction
    cases a with
    | journal u => exact absurd rfl (ha u)
    | _ => split <;> rfl
  have hsettings : (s.fireAction id s a).settings = s.settings := by
    unfold State.fireAction
    split <;> simp
  have htime : (s.fireAction id s a).time = s.time := by
    unfold State.fireAction
    split <;> simp
  show ((s.fireAction id s a).append _ _).journal = _
  rw [State.append_journal, State.append_journal, hjournal, hsettings, htime]

/-- Settles O31: one action by `exec_fire_one`, a list by the runs of its beginnings. -/
theorem fireOutputLevel : Obligations.FireOutputLevel := by
  refine ⟨fun s id line level harmed hreached ha => ⟨fun hop => ⟨fun howner hforced => ?performed, fun hline => ?refused⟩,
    fun hop heligible => ?suppressed⟩, fun s id harmed hreached hop late hlate => ?_⟩
  case performed =>
    obtain ⟨u, x, hexec, hstep, hrefused⟩ := exec_fire_one ((s.isDue_iff _).2 ⟨harmed, hreached, .inl hop⟩) ha
    have hfree : ¬(s.outputs[line].owner ≠ .schedule ∨ s.outputs[line].forced = true) := by
      simp only [howner, hforced]
      decide
    rw [State.outcomeOf_outputLevel, if_neg (not_not.2 hop), if_neg hfree, if_neg nofun, satAdd_zero] at hrefused
    rw [State.ActionStep, if_pos ⟨hop, howner, hforced⟩] at hstep
    obtain ⟨_, rfl, rfl⟩ := hstep
    exact ⟨_, hexec, rfl, hrefused, rfl, rfl⟩
  case refused =>
    obtain ⟨u, x, hexec, hstep, hrefused⟩ := exec_fire_one ((s.isDue_iff _).2 ⟨harmed, hreached, .inl hop⟩) ha
    have hbarred : ¬(s.control.op = .active ∧ s.outputs[line].owner = .schedule ∧ s.outputs[line].forced = false) := by
      rintro ⟨-, howner, hforced⟩
      exact hline.elim (· howner) (by rw [hforced]; nofun)
    rw [State.outcomeOf_outputLevel, if_neg (not_not.2 hop), if_pos hline, if_pos rfl] at hrefused
    rw [State.ActionStep, if_neg hbarred] at hstep
    subst hstep
    exact ⟨_, hexec, rfl, hrefused, rfl, rfl⟩
  case suppressed =>
    have hnot : s.control.op ≠ .active := by rcases hop with hop | hop <;> simp [hop]
    obtain ⟨u, x, hexec, hstep, hrefused⟩ :=
      exec_fire_one ((s.isDue_iff _).2 ⟨harmed, hreached, .inr ⟨hop, heligible⟩⟩) ha
    rw [State.outcomeOf_outputLevel, if_pos hnot, if_neg nofun, satAdd_zero] at hrefused
    rw [State.ActionStep, if_neg fun h => hnot h.1] at hstep
    subst hstep
    exact ⟨_, hexec, rfl, hrefused, rfl, rfl⟩
  have hdue := (s.isDue_iff _).2 ⟨harmed, hreached, hop⟩
  refine ⟨fun line level width ha => ?pulse, fun n force ha => ?start, fun n ha => ?stop, fun ha => ?notify,
    fun userTag ha => ?journal, fun a userTag ha hne => ?pair, fun flags hepoch hflate hsuppressed hrefused => ?list⟩
  case pulse =>
    obtain ⟨u, x, hexec, hstep, -⟩ := exec_fire_one hdue ha
    refine ⟨_, _, hexec, rfl, ?_⟩
    rw [State.ActionStep] at hstep
    split_ifs at hstep ⊢
    · obtain ⟨_, rfl, rfl⟩ := hstep
      exact ⟨rfl, rfl, rfl, rfl⟩
    · subst hstep
      exact ⟨rfl, rfl, rfl, rfl⟩
  case start =>
    obtain ⟨u, x, hexec, hstep, -⟩ := exec_fire_one hdue ha
    rw [State.ActionStep] at hstep
    refine ⟨_, _, _, hexec, rfl, rfl, ?_⟩
    split at hstep
    next hactive =>
      obtain ⟨_, _, rfl, rfl, rfl⟩ := hstep
      exact ⟨(if_pos hactive).symm, rfl, rfl, rfl⟩
    next hactive =>
      subst hstep
      exact ⟨(if_neg hactive).symm, rfl, rfl, rfl⟩
  case stop =>
    obtain ⟨u, x, hexec, hstep, -⟩ := exec_fire_one hdue ha
    refine ⟨_, _, hexec, rfl, ?_⟩
    rw [State.ActionStep] at hstep
    split_ifs at hstep ⊢
    · obtain ⟨_, rfl, rfl⟩ := hstep
      exact ⟨rfl, rfl, rfl, rfl⟩
    · subst hstep
      exact ⟨rfl, rfl, rfl, rfl⟩
  case notify =>
    obtain ⟨u, x, hexec, hstep, -⟩ := exec_fire_one hdue ha
    rw [State.ActionStep] at hstep
    subst hstep
    exact ⟨_, hexec, rfl, rfl, rfl, rfl⟩
  case journal =>
    obtain ⟨u, x, hexec, hstep, -⟩ := exec_fire_one hdue ha
    have hflags : s.fireFlags id = ⟨false, false, false, late⟩ :=
      State.fireFlags_eq rfl (by rw [State.fireFlags_suppressed_iff, ha]; simp) (by rw [State.fireFlags_refused_iff, ha]; simp)
        hlate
    rw [State.ActionStep, hflags] at hstep
    subst hstep
    exact ⟨_, _, hexec, rfl, rfl, rfl, rfl, rfl⟩
  case pair =>
    have hflags : s.fireFlags id = ⟨false, (s.fireFlags id).suppressed, (s.fireFlags id).refused, late⟩ :=
      State.fireFlags_eq rfl .rfl .rfl hlate
    refine ⟨_, _, (s.fireFlags id).suppressed, (s.fireFlags id).refused, exec_fire_due hdue, ?_, ?_, rfl, ?_⟩
    · rw [State.fireFlags_suppressed_iff, ha]
      simp [hne, and_comm]
    · rw [State.fireFlags_refused_iff, ha]
      simp
    · rw [← hflags, State.fireEntry_eq, ha]
      exact State.fireActions_journal_pair hne userTag
  case list =>
    have hflags : s.fireFlags id = flags :=
      State.fireFlags_eq hepoch (hsuppressed.trans (s.fireFlags_suppressed_iff id).symm)
        (hrefused.trans (s.fireFlags_refused_iff id).symm) (hflate ▸ hlate)
    refine ⟨_, fun i => s.fireActions id s (s.sched[id].actions.take i), exec_fire_due hdue, rfl, fun i a hi => ?_, ?_⟩
    · dsimp only
      rw [← hflags, State.fireActions_take_succ hi]
      exact s.fireAction_actionStep _ id a
    · dsimp only
      rw [State.fireEntry_eq, List.take_length]
      rfl

end Sys2Proof.Machine
end

section
namespace Sys2Proof.Machine

-- One theorem after another, as in the tests: a thread for each proof takes more memory than the check gives.
set_option Elab.async false

/-! # SCHED_PAUSE, SCHED_RESUME and SCHED_CANCEL (R75 to R77) -/

/-- The executor's end of a request whose checks pass (R17, R28). -/
theorem State.perform_answered {s t : State} {q : Request} {rest : List Request} (h : s.Ready q rest)
    (accepts : Request → Bool) (ha : accepts q = true) {body : List Byte → State → Reply} {r : Result} {p : List Byte}
    (hbody : body q.payload (s.took rest) = .answer t r p) : s.perform accepts body = t.answered q.tag r p := by
  rw [State.perform_ready h accepts ha, hbody, Reply.finish_answer]

/-- The id byte of a request names its entry (R75 to R78). -/
theorem idByte_val (id : Fin 32) : (byteAt [byteOf id.val] 0).toNat = id.val := toNat_byteOf_val (by decide) id

/-- Where an id names an entry, that entry's state is asked (R30). -/
theorem State.entryIs_val (s : State) (id : Fin 32) (f : EntryState → Bool) : s.entryIs id.val f = f s.sched[id].state := by
  simp only [State.entryIs, finOf_val]

/-- An id above 31 names no entry, so no check of state fails (R30). -/
theorem State.entryIs_of_lt (s : State) {n : Nat} (h : 31 < n) (f : EntryState → Bool) : s.entryIs n f = false := by
  simp only [State.entryIs, finOf_of_le h]

/-- Of the checks of state and range the first to fail gives the result (R30). -/
theorem Checks.result_state_range (state range : Bool) :
    ({ state := state, range := range } : Checks).result =
      if state then some .state else if range then some .range else none := by
  cases state <;> rfl

/-- SCHED_PAUSE of an entry (R75). -/
theorem reqSchedPause_id (s : State) (id : Fin 32) :
    reqSchedPause [byteOf id.val] s = if s.sched[id].state = .armed then
      .answer (s.modEntry id fun e => e.pause s.time.clock) .ok [] else .answer s .state [] := by
  have hrange : decide (31 < id.val) = false := decide_eq_false (by omega)
  simp only [reqSchedPause, idByte_val, State.entryIs_val, finOf_val, hrange]
  split
  next h => exact Checks.guard_pass (by rw [Checks.result_state_range, h]; rfl) _ _
  next h => exact Checks.guard_fail (by rw [Checks.result_state_range, if_pos (bne_iff_ne.2 h)]) _ _

/-- SCHED_RESUME of an entry (R76). -/
theorem reqSchedResume_id (s : State) (id : Fin 32) :
    reqSchedResume [byteOf id.val] s = if s.sched[id].state = .paused then
      .answer (s.modEntry id fun e => e.resume s.time.clock) .ok (Stamp.bytes (s.sched[id].resume s.time.clock).due)
      else .answer s .state [] := by
  have hrange : decide (31 < id.val) = false := decide_eq_false (by omega)
  simp only [reqSchedResume, idByte_val, State.entryIs_val, finOf_val, hrange]
  split
  next h => exact Checks.guard_pass (by rw [Checks.result_state_range, h]; rfl) _ _
  next h => exact Checks.guard_fail (by rw [Checks.result_state_range, if_pos (bne_iff_ne.2 h)]) _ _

/-- SCHED_CANCEL of an entry (R77). -/
theorem reqSchedCancel_id (s : State) (id : Fin 32) :
    reqSchedCancel [byteOf id.val] s = .answer (s.modEntry id fun _ => .free) .ok [s.sched[id].state.code] := by
  have hrange : decide (31 < id.val) = false := decide_eq_false (by omega)
  simp only [reqSchedCancel, idByte_val, finOf_val, hrange]
  exact Checks.guard_pass rfl _ _

/-- Each of the three refuses an id that names no entry (R75, R76, R77). -/
theorem reqSched_range (s : State) {b : Byte} (h : 31 < b.toNat) :
    reqSchedPause [b] s = .answer s .range [] ∧ reqSchedResume [b] s = .answer s .range [] ∧
      reqSchedCancel [b] s = .answer s .range [] := by
  have hb : (byteAt [b] 0).toNat = b.toNat := rfl
  simp only [reqSchedPause, reqSchedResume, reqSchedCancel, hb, State.entryIs_of_lt s h, decide_eq_true h]
  exact ⟨Checks.guard_fail rfl _ _, Checks.guard_fail rfl _ _, Checks.guard_fail rfl _ _⟩

/-- A RELATIVE entry's remaining interval: what is left to its due stamp, 0 when that is reached (R75). -/
theorem remaining_eq (due clock : Stamp) :
    BitVec.ofNat 42 (due.toNat - clock.toNat) = if clock.toNat ≤ due.toNat then due - clock else 0 := by
  split
  next h =>
    apply BitVec.eq_of_toNat_eq
    rw [BitVec.toNat_sub_of_le (BitVec.le_def.2 h), BitVec.toNat_ofNat]
    omega
  next h => rw [Nat.sub_eq_zero_of_le (Nat.le_of_not_le h)]; rfl

/-- A resume of an entry, its stamps as sums of stamps (R76). -/
theorem Entry.resume_eq (e : Entry) (clock : Stamp) :
    e.resume clock =
      if e.relative then
        if 2 ^ 42 - 1 < clock.toNat + (e.remaining.getD 0).toNat then
          { e with
            state := .armed, remaining := none, due := epochEndStamp, clamped := true
            atOnce := decide (e.remaining.getD 0 = 0) }
        else
          { e with
            state := .armed, remaining := none, due := clock + e.remaining.getD 0
            atOnce := decide (e.remaining.getD 0 = 0) }
      else { e with state := .armed, atOnce := false } := by
  unfold Entry.resume
  dsimp only
  rw [Bool.beq_eq_decide_eq]
  by_cases hend : 2 ^ 42 - 1 < clock.toNat + (e.remaining.getD 0).toNat
  · rw [if_pos hend, beyondEnd_of_lt hend, Bool.or_true]
    rfl
  · rw [if_neg hend, beyondEnd_of_le (Nat.not_lt.1 hend), Bool.or_false, BitVec.ofNat_add, BitVec.ofNat_toNat,
      BitVec.ofNat_toNat, BitVec.setWidth_eq, BitVec.setWidth_eq]
    rfl

/-- Settles O27: each request by its equation for an entry's id, and the ids above 31 by `reqSched_range`. -/
theorem schedPauseResumeCancel : Obligations.SchedPauseResumeCancel := by
  refine ⟨fun s tag id rest => ⟨fun hready => ?pause, fun hready => ?resume, fun hready => ?cancel⟩,
    fun s tag b rest i hb hcommand => ?range⟩
  case pause =>
    have hreq := reqSchedPause_id (s.took rest) id
    refine ⟨fun harmed => ⟨s.sched[id].pause s.time.clock, ?_, ?_⟩, fun hnot => ?_⟩
    · rw [Entry.pause, remaining_eq]
    · exact congrArg _ (State.perform_answered hready _ rfl (hreq.trans (if_pos harmed)))
    · exact congrArg _ (State.perform_answered hready _ rfl (hreq.trans (if_neg hnot)))
  case resume =>
    have hreq := reqSchedResume_id (s.took rest) id
    refine ⟨fun hpaused => ⟨s.sched[id].resume s.time.clock, Entry.resume_eq _ _, ?_⟩, fun hnot => ?_⟩
    · exact congrArg _ (State.perform_answered hready _ rfl (hreq.trans (if_pos hpaused)))
    · exact congrArg _ (State.perform_answered hready _ rfl (hreq.trans (if_neg hnot)))
  case cancel =>
    exact congrArg _ (State.perform_answered hready _ rfl (reqSchedCancel_id (s.took rest) id))
  case range =>
    obtain ⟨hpause, hresume, hcancel⟩ := reqSched_range (s.took rest) hb
    rcases hcommand with ⟨hready, rfl⟩ | ⟨hready, rfl⟩ | ⟨hready, rfl⟩
    · exact congrArg _ (State.perform_refused hready _ rfl hpause)
    · exact congrArg _ (State.perform_refused hready _ rfl hresume)
    · exact congrArg _ (State.perform_refused hready _ rfl hcancel)

end Sys2Proof.Machine
end

section
namespace Sys2Proof.Machine

-- One theorem after another, as in the tests: a thread for each proof takes more memory than the check gives.
set_option Elab.async false

/-! # SCHED_READ (R68, R78) -/

/-! ## The parts of a count of ticks (R53, R71) -/

/-- The whole seconds of a count of ticks are its upper bits. -/
theorem extract_seconds {w : Nat} (x : BitVec w) (n : Nat) : x.extractLsb' 10 n = BitVec.ofNat n (x.toNat / 1024) := by
  rw [BitVec.extractLsb', Nat.shiftRight_eq_div_pow]

/-- The ticks of a count of ticks are its lower ten bits. -/
theorem extract_ticks {w : Nat} (x : BitVec w) : (x.extractLsb' 0 10).setWidth 16 = BitVec.ofNat 16 (x.toNat % 1024) := by
  apply BitVec.eq_of_toNat_eq
  simp

/-- The six bytes of a stamp are its seconds and its ticks (R53). -/
theorem Stamp.bytes_eq (t : Stamp) :
    Stamp.bytes t = be32 (BitVec.ofNat 32 (BitVec.toNat t / 1024)) ++ be16n (BitVec.toNat t % 1024) := by
  rw [Stamp.bytes, Stamp.seconds, Stamp.ticks, extract_seconds, extract_ticks]
  rfl

/-! ## The fields of the answer (R78) -/

/-- The configuration byte of SCHED_READ (R78). -/
def Entry.configByte (e : Entry) : Byte :=
  bit e.relative ||| (bit e.burst <<< 1) ||| (bit e.backupEligible <<< 2) ||| (bit e.period.isSome <<< 4) |||
    (bit e.budget.isSome <<< 5)

/-- The notes byte of SCHED_READ (R78). -/
def Entry.notesByte (e : Entry) : Byte :=
  bit e.lastFired.isSome ||| (bit e.remaining.isSome <<< 1) ||| (bit e.epochEnded <<< 2) ||| (bit e.clamped <<< 3)

/-- The bits of the configuration byte (R71, R78). -/
theorem Entry.configByte_bits (e : Entry) :
    e.configByte.getLsbD 0 = e.relative ∧ e.configByte.getLsbD 1 = e.burst ∧ e.configByte.getLsbD 2 = e.backupEligible ∧
    e.configByte.getLsbD 3 = false ∧ e.configByte.getLsbD 4 = e.period.isSome ∧ e.configByte.getLsbD 5 = e.budget.isSome ∧
    e.configByte.getLsbD 6 = false ∧ e.configByte.getLsbD 7 = false := by
  simp [Entry.configByte, getElem_bit]

/-- The bits of the notes byte (R78). -/
theorem Entry.notesByte_bits (e : Entry) :
    e.notesByte.getLsbD 0 = e.lastFired.isSome ∧ e.notesByte.getLsbD 1 = e.remaining.isSome ∧
    e.notesByte.getLsbD 2 = e.epochEnded ∧ e.notesByte.getLsbD 3 = e.clamped ∧ e.notesByte.getLsbD 4 = false ∧
    e.notesByte.getLsbD 5 = false ∧ e.notesByte.getLsbD 6 = false ∧ e.notesByte.getLsbD 7 = false := by
  simp [Entry.notesByte, getElem_bit]

/-- The period's five bytes: its seconds and its ticks, zero if absent (R78). -/
def periodBytes (p : Option Span) : List Byte :=
  match p with
  | some p => be24 (BitVec.ofNat 24 (p.toNat / 1024)) ++ be16n (p.toNat % 1024)
  | none => [0, 0, 0, 0, 0]

/-- The budget's two bytes, zero if absent (R78). -/
def budgetBytes (b : Option (BitVec 16)) : List Byte :=
  match b with
  | some n => be16 n
  | none => [0, 0]

/-- An optional stamp's six bytes: its seconds and its ticks, zero if absent (R78). -/
def stampBytes (t : Option Stamp) : List Byte :=
  match t with
  | some t => be32 (BitVec.ofNat 32 (BitVec.toNat t / 1024)) ++ be16n (BitVec.toNat t % 1024)
  | none => [0, 0, 0, 0, 0, 0]

/-- The period field of SCHED_READ (R78). -/
theorem periodBytes_eq (p : Option Span) :
    be24 ((p.getD 0).extractLsb' 10 24) ++ be16 (((p.getD 0).extractLsb' 0 10).setWidth 16) = periodBytes p := by
  cases p with
  | none => rfl
  | some p =>
    rw [extract_seconds, extract_ticks]
    rfl

/-- The budget field of SCHED_READ (R78). -/
theorem budgetBytes_eq (b : Option (BitVec 16)) : be16 (b.getD 0) = budgetBytes b := by cases b <;> rfl

/-- An optional stamp's field in SCHED_READ (R78). -/
theorem optStampBytes_eq (t : Option Stamp) : optStampBytes t = stampBytes t := by
  cases t with
  | none => rfl
  | some t => exact Stamp.bytes_eq t

/-- An action is encoded in four bytes (R68). -/
theorem Action.length_encode (a : Action) : a.encode.length = 4 := by cases a <;> rfl

/-- A list of actions is encoded in four bytes each (R68). -/
theorem length_flatMap_encode (actions : List Action) : (actions.flatMap Action.encode).length = 4 * actions.length := by
  simp [List.length_flatMap, Action.length_encode, Nat.mul_comm]

/-- The line and level byte of OUTPUT_PULSE as a number (R68). -/
theorem pulseByte_eq (line : Fin 6) (level : Bool) : pulseByte line.val level = byteOf (line.val + if level then 16 else 0) := by
  revert line level
  decide

/-- An entry of at most 4 actions reads as 51 bytes (R78). -/
theorem Entry.length_bytes {e : Entry} (h : e.actions.length ≤ 4) (id : Fin 32) : (e.bytes id).length = 51 := by
  simp [-List.length_flatMap, length_flatMap_encode, Entry.bytes, Stamp.bytes, optStampBytes, be16, be24, be32]
  omega

/-- SCHED_READ of an entry (R78). -/
theorem reqSchedRead_id (s : State) (id : Fin 32) : reqSchedRead [byteOf id.val] s = .answer s .ok (s.sched[id].bytes id) := by
  have hrange : decide (31 < id.val) = false := decide_eq_false (by omega)
  simp only [reqSchedRead, idByte_val, finOf_val, hrange]
  exact Checks.guard_pass rfl _ _

/-- SCHED_READ refuses an id that names no entry (R78). -/
theorem reqSchedRead_range (s : State) {b : Byte} (h : 31 < b.toNat) : reqSchedRead [b] s = .answer s .range [] := by
  have hb : (byteAt [b] 0).toNat = b.toNat := rfl
  simp only [reqSchedRead, hb, decide_eq_true h]
  exact Checks.guard_fail rfl _ _

/-- Settles O28: the fields of the answer before the actions, the actions, and the zeros behind them. -/
theorem schedReadAnswers : Obligations.SchedReadAnswers := by
  intro s tag b rest hready
  refine ⟨fun hb => congrArg _ (State.perform_refused hready _ rfl (reqSchedRead_range _ hb)), ?_⟩
  rintro id hid e rfl hactions
  obtain rfl : byteOf id.val = b := by rw [hid, byteOf_toNat]
  refine ⟨s.sched[id].configByte, s.sched[id].notesByte, s.sched[id].bytes id, Entry.configByte_bits _,
    Entry.notesByte_bits _, congrArg₂ (· ++ ·) (congrArg₂ (· ++ ·) ?fields ?actions) ?zeros,
    Entry.length_bytes hactions id, fun hfree => ?free,
    congrArg _ (State.perform_answered hready _ rfl (reqSchedRead_id (s.took rest) id))⟩
  case fields =>
    rw [List.append_assoc _ (be24 _) (be16 _), periodBytes_eq, budgetBytes_eq, optStampBytes_eq, optStampBytes_eq,
      Stamp.bytes_eq]
    simp only [List.append_assoc]
    rfl
  case actions =>
    refine List.flatMap_congr fun a _ => ?_
    cases a with
    | outputPulse line level width => exact congrArg (fun b => 4 :: b :: be16 width) (pulseByte_eq line level)
    | _ => rfl
  case zeros =>
    rw [length_flatMap_encode]
    congr 1
    omega
  case free =>
    rw [hfree]
    rfl

end Sys2Proof.Machine
end

section
namespace Sys2Proof.Machine

-- One theorem after another, as in the tests: a thread for each proof takes more memory than the check gives.
set_option Elab.async false

/-! # SCHED_SUMMARY and the firing order (R79, R80) -/

/-! ## The firing order (R80) -/

/-- An entry fires before another: an earlier due stamp, or the same one and a lower id (R80). -/
def FiresBefore (table : Vector Entry 32) (i j : Fin 32) : Prop :=
  table[i].due.toNat < table[j].due.toNat ∨ (table[i].due = table[j].due ∧ i < j)

/-- An entry with no later due stamp and a lower id fires before another (R80). -/
theorem FiresBefore.of_le {table : Vector Entry 32} {i j : Fin 32} (hdue : table[i].due.toNat ≤ table[j].due.toNat)
    (hid : i < j) : FiresBefore table i j :=
  (Nat.lt_or_eq_of_le hdue).imp id fun heq => ⟨BitVec.eq_of_toNat_eq heq, hid⟩

/-- An entry that fires before another has no later due stamp (R80). -/
theorem FiresBefore.due_le {table : Vector Entry 32} {i j : Fin 32} (h : FiresBefore table i j) :
    table[i].due.toNat ≤ table[j].due.toNat := by
  rcases h with hlt | ⟨heq, -⟩
  · exact hlt.le
  · rw [heq]

/-- An insertion puts one more entry into the order. -/
theorem mem_insertByDue {table : Vector Entry 32} {id j : Fin 32} {order : List (Fin 32)} :
    j ∈ insertByDue table id order ↔ j = id ∨ j ∈ order := by
  induction order with
  | nil => exact List.mem_singleton.trans (by simp)
  | cons other rest ih =>
    unfold insertByDue
    split
    · exact List.mem_cons
    · rw [List.mem_cons, ih, List.mem_cons, or_left_comm]

/-- An entry whose id is below the others' is inserted in firing order (R80). -/
theorem pairwise_insertByDue {table : Vector Entry 32} {id : Fin 32} {order : List (Fin 32)} (hid : ∀ j ∈ order, id < j)
    (horder : order.Pairwise (FiresBefore table)) : (insertByDue table id order).Pairwise (FiresBefore table) := by
  induction order with
  | nil => exact List.pairwise_singleton _ _
  | cons other rest ih =>
    obtain ⟨hother, hrest⟩ := List.pairwise_cons.1 horder
    unfold insertByDue
    split
    next hle =>
      refine List.pairwise_cons.2 ⟨fun j hj => .of_le ?_ (hid j hj), horder⟩
      rcases List.mem_cons.1 hj with rfl | hj
      · exact hle
      · exact hle.trans (hother j hj).due_le
    next hlt =>
      refine List.pairwise_cons.2 ⟨fun j hj => ?_, ih (fun j hj => hid j (List.mem_cons_of_mem _ hj)) hrest⟩
      rcases mem_insertByDue.1 hj with rfl | hj
      · exact .inl (Nat.not_le.1 hlt)
      · exact hother j hj

/-- Entries inserted from the highest id down stand in firing order (R80). -/
theorem foldr_insertByDue (table : Vector Entry 32) {ids : List (Fin 32)} (hids : ids.Pairwise (· < ·)) :
    (ids.foldr (insertByDue table) []).Pairwise (FiresBefore table) ∧
      ∀ j, j ∈ ids.foldr (insertByDue table) [] ↔ j ∈ ids := by
  induction ids with
  | nil => exact ⟨.nil, fun _ => .rfl⟩
  | cons id rest ih =>
    obtain ⟨hid, hrest⟩ := List.pairwise_cons.1 hids
    obtain ⟨horder, hmem⟩ := ih hrest
    exact ⟨pairwise_insertByDue (fun j hj => hid j ((hmem j).1 hj)) horder,
      fun j => by rw [List.foldr_cons, mem_insertByDue, hmem, List.mem_cons]⟩

/-- The entries with a property, in ascending id. -/
theorem pairwise_filter_allEntries (p : Fin 32 → Bool) : (allEntries.filter p).Pairwise (· < ·) :=
  (List.pairwise_lt_finRange 32).filter p

/-- The firing order is ascending due stamp and then ascending id (R80). -/
theorem firingOrder_pairwise (table : Vector Entry 32) (f : Entry → Bool) :
    (firingOrder table f).Pairwise (FiresBefore table) :=
  (foldr_insertByDue table (pairwise_filter_allEntries _)).1

/-- The firing order holds the entries with the property (R80). -/
theorem mem_firingOrder {table : Vector Entry 32} {f : Entry → Bool} {id : Fin 32} :
    id ∈ firingOrder table f ↔ f table[id] = true := by
  rw [firingOrder, (foldr_insertByDue table (pairwise_filter_allEntries _)).2, List.mem_filter]
  simp [allEntries]

/-! ## The answer (R79) -/

/-- With no ARMED entry there is no next one (R79). -/
theorem State.nextEntry_eq_none {s : State} (h : ∀ id : Fin 32, s.sched[id].state ≠ .armed) : s.nextEntry = none := by
  rw [State.nextEntry, List.head?_eq_none_iff, List.eq_nil_iff_forall_not_mem]
  exact fun id hid => h id (beq_iff_eq.1 (mem_firingOrder.1 hid))

/-- The next entry is the ARMED entry that no other ARMED entry precedes (R79). -/
theorem State.nextEntry_eq_some {s : State} {id : Fin 32} (harmed : s.sched[id].state = .armed)
    (hfirst : ∀ j : Fin 32, s.sched[j].state = .armed →
      s.sched[id].due.toNat < s.sched[j].due.toNat ∨ (s.sched[id].due = s.sched[j].due ∧ id.val ≤ j.val)) :
    s.nextEntry = some id := by
  have hmem : id ∈ firingOrder s.sched fun e => e.state == .armed := mem_firingOrder.2 (beq_iff_eq.2 harmed)
  have horder := firingOrder_pairwise s.sched fun e => e.state == .armed
  have harmed' : ∀ j, j ∈ firingOrder s.sched (fun e => e.state == .armed) → s.sched[j].state = .armed :=
    fun j hj => beq_iff_eq.1 (mem_firingOrder.1 hj)
  rw [State.nextEntry]
  cases hlist : firingOrder s.sched fun e => e.state == .armed with
  | nil => simp [hlist] at hmem
  | cons head rest =>
    rw [hlist] at hmem horder harmed'
    rcases List.mem_cons.1 hmem with rfl | hrest
    · rfl
    · have hbefore := (List.pairwise_cons.1 horder).1 id hrest
      have hhead := hfirst head (harmed' head List.mem_cons_self)
      exfalso
      rcases hbefore with hlt | ⟨heq, hid⟩ <;> rcases hhead with hlt' | ⟨heq', hid'⟩
      · omega
      · rw [heq'] at hlt; omega
      · rw [heq] at hlt'; omega
      · omega

/-- A bit of a map that is made bit by bit: set before, or set for one of the numbers. -/
theorem getLsbD_foldl_twoPow (p : Fin 32 → Prop) [DecidablePred p] (ids : List (Fin 32)) (m : BitVec 32) (k : Fin 32) :
    (ids.foldl (fun m id => if p id then m ||| BitVec.twoPow 32 id.val else m) m).getLsbD k.val =
      (m.getLsbD k.val || decide (k ∈ ids ∧ p k)) := by
  induction ids generalizing m with
  | nil => simp
  | cons id rest ih =>
    rw [List.foldl_cons, ih]
    by_cases hk : k = id
    · subst hk
      by_cases hp : p k <;> simp [hp]
    · have hne : ¬k.val = id.val := fun h => hk (Fin.ext h)
      by_cases hp : p id <;> simp [hp, hk, hne]

/-- Bit `i` of a state map is whether entry `i` is in the state (R79). -/
theorem State.stateMap_getLsbD (s : State) (k : EntryState) (id : Fin 32) :
    (s.stateMap k).getLsbD id.val = decide (s.sched[id].state = k) := by
  rw [State.stateMap, getLsbD_foldl_twoPow (fun id => s.sched[id].state = k)]
  simp [allEntries]

/-- Settles O29: the maps bit by bit, and the next entry by the firing order. -/
theorem schedSummaryAnswers : Obligations.SchedSummaryAnswers := by
  intro s tag p rest hready
  refine ⟨s.stateMap .armed, s.stateMap .paused, s.stateMap .spent, _,
    fun id => ⟨s.stateMap_getLsbD _ id, s.stateMap_getLsbD _ id, s.stateMap_getLsbD _ id⟩, fun hnone => ?none,
    fun id harmed hfirst => ?some, congrArg _ (State.perform_answered hready _ rfl rfl)⟩
  case none =>
    have hnext : (s.took rest).nextEntry = none := State.nextEntry_eq_none hnone
    rw [hnext]
  case some =>
    have hnext : (s.took rest).nextEntry = some id := State.nextEntry_eq_some harmed hfirst
    rw [hnext]
    rfl

end Sys2Proof.Machine
end

section
namespace Sys2Proof.Machine

-- One theorem after another, as in the tests: a thread for each proof takes more memory than the check gives.
set_option Elab.async false

/-! # The journal's operations (R93 to R106) -/

/-! ## Counts of records -/

/-- Without a record at a position, the records with a property are fewer by that one if it has it. -/
theorem countP_eraseIdx_add {p : Record → Bool} {l : List Record} {i : Nat} {r : Record} (h : l[i]? = some r) :
    (l.eraseIdx i).countP p + (if p r then 1 else 0) = l.countP p := by
  obtain ⟨hi, hr⟩ := List.getElem?_eq_some_iff.1 h
  have hsplit : l = l.take i ++ r :: l.drop (i + 1) := by rw [← hr, List.getElem_cons_drop, List.take_append_drop]
  rw [List.eraseIdx_eq_take_drop_succ, List.countP_append]
  conv_rhs => rw [hsplit, List.countP_append, List.countP_cons]
  omega

/-- A class is full when its used count has come to its quota (R93). -/
theorem Journal.full_iff (j : Journal) (c : RecordClass) : j.full c = true ↔ c.quota ≤ j.used c := decide_eq_true_iff

/-- A class has room while its used count is below its quota (R93). -/
theorem Journal.full_eq_false_iff (j : Journal) (c : RecordClass) : j.full c = false ↔ j.used c < c.quota :=
  decide_eq_false_iff_not.trans Nat.not_le

/-- No LOSS record is open exactly when every record is closed (R101). -/
theorem Journal.hasOpen_eq_false_iff (j : Journal) : j.hasOpen = false ↔ ∀ r ∈ j.records, r.opened = false := by
  simp [Journal.hasOpen]

/-- The used counts after a record is placed at the tail (R93). -/
theorem Journal.used_put (j : Journal) (r : Record) (c : RecordClass) :
    (j.put r).used c = j.used c + if r.recordClass = c then 1 else 0 := by
  simp only [Journal.used, Journal.put, List.countP_append, List.countP_singleton, beq_iff_eq]
  rfl

/-- The used counts after a record is taken out (R93). -/
theorem Journal.used_removeAt {j : Journal} {i : Nat} {r : Record} (h : j.records[i]? = some r) (c : RecordClass) :
    (j.removeAt i).used c + (if r.recordClass = c then 1 else 0) = j.used c := by
  have hcount := countP_eraseIdx_add (p := fun r => r.recordClass == c) h
  simp only [beq_iff_eq] at hcount
  exact hcount

/-- A loss counted in place leaves the kind of its record (R98, R101). -/
@[simp] theorem Body.kindCode_addLoss (b : Body) (c : RecordClass) : (b.addLoss c).kindCode = b.kindCode := by
  cases b <;> cases c <;> rfl

/-- A loss counted in place leaves the class of its record (R98, R101). -/
@[simp] theorem Body.recordClass_addLoss (b : Body) (c : RecordClass) : (b.addLoss c).recordClass = b.recordClass := by
  cases b <;> cases c <;> rfl

/-- A record as a loss counted in place leaves it: only the open one changes (R101). -/
def Record.bump (c : RecordClass) (r : Record) : Record := if r.opened then { r with body := r.body.addLoss c } else r

/-- A loss is counted in every record that is open (R101). -/
theorem Journal.bumpLoss_records (j : Journal) (c : RecordClass) : (j.bumpLoss c).records = j.records.map (Record.bump c) := rfl

/-- A loss counted in place leaves the flag of its record (R101). -/
@[simp] theorem Record.opened_bump (c : RecordClass) (r : Record) : (r.bump c).opened = r.opened := by
  unfold Record.bump
  split <;> rfl

/-- A loss counted in place leaves the kind of its record (R98, R101). -/
@[simp] theorem Record.kindCode_bump (c : RecordClass) (r : Record) : (r.bump c).body.kindCode = r.body.kindCode := by
  unfold Record.bump
  split <;> simp

/-- A loss counted in place leaves the class of its record (R98, R101). -/
@[simp] theorem Record.recordClass_bump (c : RecordClass) (r : Record) : (r.bump c).recordClass = r.recordClass := by
  unfold Record.bump Record.recordClass
  split <;> simp

/-- A loss counted in place leaves the used counts (R93, R101). -/
@[simp] theorem Journal.used_bumpLoss (j : Journal) (k c : RecordClass) : (j.bumpLoss k).used c = j.used c := by
  simp [Journal.used, Journal.bumpLoss_records, Function.comp_def]

/-- A record placed at the tail is open, or one before it is (R101). -/
@[simp] theorem Journal.hasOpen_put (j : Journal) (r : Record) : (j.put r).hasOpen = (j.hasOpen || r.opened) := by
  simp [Journal.hasOpen, Journal.put]

/-- A loss counted in place leaves its record open (R101). -/
@[simp] theorem Journal.hasOpen_bumpLoss (j : Journal) (c : RecordClass) : (j.bumpLoss c).hasOpen = j.hasOpen := by
  simp [Journal.hasOpen, Journal.bumpLoss_records, Function.comp_def]

/-- The removal of a closed record leaves the open one (R102, R103). -/
theorem Journal.hasOpen_removeAt {j : Journal} {i : Nat} {r : Record} (h : j.records[i]? = some r) (hr : r.opened = false) :
    (j.removeAt i).hasOpen = j.hasOpen := by
  have hcount := countP_eraseIdx_add (p := fun r => r.opened) h
  simp only [hr, Bool.false_eq_true, if_false, Nat.add_zero] at hcount
  rw [Bool.eq_iff_iff, Journal.hasOpen, Journal.hasOpen, List.any_eq_true, List.any_eq_true, ← List.countP_pos_iff,
    ← List.countP_pos_iff]
  exact hcount ▸ Iff.rfl

/-! ## The invariant -/

/-- Every record before the cursor is closed, position by position (R95, R101). -/
theorem closed_take_iff {l : List Record} {n : Nat} :
    (∀ r ∈ l.take n, r.opened = false) ↔ ∀ i r, i < n → l[i]? = some r → r.opened = false := by
  simp only [List.mem_iff_getElem?, List.getElem?_take]
  constructor
  · intro h i r hi hr
    exact h r ⟨i, by rw [if_pos hi, hr]⟩
  · rintro h r ⟨i, hr⟩
    split at hr
    next hi => exact h i r hi hr
    next => cases hr

/-- No class passes its quota (R93). -/
theorem Journal.Wf.used_le {j : Journal} (h : j.Wf) (c : RecordClass) : j.used c ≤ c.quota := by
  cases c with
  | general => exact h.general
  | system => exact h.system

/-- The empty journal meets its invariant (R115). -/
theorem Journal.empty_wf : Journal.empty.Wf :=
  ⟨Nat.zero_le _, Nat.zero_le _, le_rfl, Nat.zero_le _, fun _ h => absurd h List.not_mem_nil,
    fun _ h => absurd h List.not_mem_nil⟩

/-- A record taken out leaves the invariant: the cursor goes on marking what it marked (R95). -/
theorem Journal.Wf.removeAt {j : Journal} (h : j.Wf) (i : Nat) : (j.removeAt i).Wf := by
  have hsub : (j.removeAt i).records.Sublist j.records := List.eraseIdx_sublist _ _
  have hlen : (j.removeAt i).records.length = if i < j.records.length then j.records.length - 1 else j.records.length :=
    List.length_eraseIdx
  have hcur : (j.removeAt i).cursor = if i < j.cursor then j.cursor - 1 else j.cursor := rfl
  have hcursor := h.cursor
  have hclosed := closed_take_iff.1 h.openUndelivered
  refine ⟨hsub.countP_le.trans h.general, hsub.countP_le.trans h.system, ?_, hsub.countP_le.trans h.oneOpen,
    closed_take_iff.2 fun k r hk hr => ?_, fun r hr => h.openLoss r (hsub.subset hr)⟩
  · rw [hcur, hlen]
    split_ifs <;> omega
  · have hr' : (j.records.eraseIdx i)[k]? = some r := hr
    rw [List.getElem?_eraseIdx] at hr'
    rw [hcur] at hk
    split at hr'
    · exact hclosed k r (by split_ifs at hk <;> omega) hr'
    · exact hclosed (k + 1) r (by split_ifs at hk <;> omega) hr'

/-- A record placed at the tail of a class with room leaves the invariant, an open LOSS record if none is (R93, R101). -/
theorem Journal.Wf.put {j : Journal} (h : j.Wf) {r : Record} (hroom : j.full r.recordClass = false)
    (hopen : r.opened = true → j.hasOpen = false ∧ r.body.kindCode = 0x02) : (j.put r).Wf := by
  have hquota (c : RecordClass) : (j.put r).used c ≤ c.quota := by
    have hused := h.used_le c
    rw [Journal.used_put]
    split
    next hc => exact (j.full_eq_false_iff c).1 (hc ▸ hroom)
    next => exact hused
  have hcursor := h.cursor
  have hrecords : (j.put r).records = j.records ++ [{ r with seq := j.nextSeq }] := rfl
  have htake : (j.put r).records.take j.cursor = j.records.take j.cursor := List.take_append_of_le_length h.cursor
  refine ⟨hquota .general, hquota .system, ?_, ?_, ?_, ?_⟩
  · show j.cursor ≤ _
    rw [hrecords, List.length_append]
    omega
  · rw [hrecords, List.countP_append, List.countP_singleton]
    split
    next ho =>
      have hclosed := j.hasOpen_eq_false_iff.1 (hopen ho).1
      have hnone : j.records.countP (fun r => r.opened) = 0 :=
        List.countP_eq_zero.2 fun x hx => Bool.eq_false_iff.1 (hclosed x hx)
      omega
    next => exact h.oneOpen
  · show ∀ x ∈ (j.put r).records.take j.cursor, _
    rw [htake]
    exact h.openUndelivered
  · intro x hx ho
    rw [hrecords] at hx
    rcases List.mem_append.1 hx with hx | hx
    · exact h.openLoss x hx ho
    · cases List.mem_singleton.1 hx
      exact (hopen ho).2

/-- A loss counted in place leaves the invariant (R101). -/
theorem Journal.Wf.bumpLoss {j : Journal} (h : j.Wf) (c : RecordClass) : (j.bumpLoss c).Wf := by
  refine ⟨by simpa using h.general, by simpa using h.system, ?_, ?_, ?_, ?_⟩
  · rw [Journal.bumpLoss_records, List.length_map]
    exact h.cursor
  · simpa [Journal.bumpLoss_records, Function.comp_def] using h.oneOpen
  · show ∀ r ∈ (j.bumpLoss c).records.take j.cursor, _
    rw [Journal.bumpLoss_records, ← List.map_take, List.forall_mem_map]
    simpa using h.openUndelivered
  · rw [Journal.bumpLoss_records, List.forall_mem_map]
    simpa using h.openLoss

/-! ## The append (R100 to R106) -/

/-- A full class has a closed record, since at most one record is open (R101 to R103). -/
theorem Journal.Wf.exists_oldest {j : Journal} (h : j.Wf) {c : RecordClass} (hfull : j.full c = true) :
    ∃ i r, j.oldest c = some i ∧ j.records[i]? = some r ∧ r.recordClass = c ∧ r.opened = false := by
  cases hold : j.oldest c with
  | some i =>
    obtain ⟨hi, hp, -⟩ := List.findIdx?_eq_some_iff_getElem.1 hold
    simp only [Bool.and_eq_true, beq_iff_eq, Bool.not_eq_true'] at hp
    exact ⟨i, j.records[i], rfl, List.getElem?_eq_getElem hi, hp⟩
  | none =>
    have hall := List.findIdx?_eq_none_iff.1 hold
    have hle : j.used c ≤ j.records.countP fun r => r.opened := by
      refine List.countP_mono_left fun r hr hc => ?_
      simpa [hc] using hall r hr
    have hone := h.oneOpen
    have hquota := (j.full_iff c).1 hfull
    have htwo : 2 ≤ c.quota := by cases c <;> decide
    omega

/-- The eviction of a record makes room in its class (R101 to R103). -/
theorem Journal.Wf.full_removeAt {j : Journal} (h : j.Wf) {i : Nat} {r : Record} (hr : j.records[i]? = some r) :
    (j.removeAt i).full r.recordClass = false := by
  have hused := Journal.used_removeAt hr r.recordClass
  have hle := h.used_le r.recordClass
  rw [if_pos rfl] at hused
  rw [Journal.full_eq_false_iff]
  omega

/-- A LOSS record is opened, with room made for it first, and the invariant kept (R101). -/
theorem Tally.openLoss_wf {m : TimeMark} {x : Tally} (h : x.journal.Wf) (hnone : x.journal.hasOpen = false) :
    (x.openLoss m).journal.Wf ∧ (x.openLoss m).journal.hasOpen = true := by
  unfold Tally.openLoss
  cases hfull : x.journal.full .system with
  | false =>
    refine ⟨?_, by simp [lossRecord]⟩
    exact h.put hfull fun _ => ⟨hnone, rfl⟩
  | true =>
    obtain ⟨i, r, hi, hr, hclass, hclosed⟩ := h.exists_oldest hfull
    rw [hi]
    have hroom : (x.journal.removeAt i).full .system = false := hclass ▸ h.full_removeAt hr
    refine ⟨?_, by simp [lossRecord]⟩
    exact (h.removeAt i).put hroom fun _ => ⟨(Journal.hasOpen_removeAt hr hclosed).trans hnone, rfl⟩

/-- With a LOSS record open, a lost record is counted in it (R101). -/
theorem Tally.lose_of_hasOpen {m : TimeMark} {x : Tally} (h : x.journal.hasOpen = true) (c : RecordClass) :
    x.lose m c = ⟨x.journal.bumpLoss c, x.losses + 1⟩ := by
  unfold Tally.lose
  rw [if_pos h]

/-- A lost record is counted in a LOSS record that is then open, and the invariant kept (R101). -/
theorem Tally.lose_wf {m : TimeMark} {x : Tally} (h : x.journal.Wf) (c : RecordClass) :
    (x.lose m c).journal.Wf ∧ (x.lose m c).journal.hasOpen = true := by
  have hopen : (if x.journal.hasOpen then x else x.openLoss m).journal.Wf ∧
      (if x.journal.hasOpen then x else x.openLoss m).journal.hasOpen = true := by
    split
    next ho => exact ⟨h, ho⟩
    next ho => exact Tally.openLoss_wf h (Bool.eq_false_iff.2 ho)
  exact ⟨hopen.1.bumpLoss c, (Journal.hasOpen_bumpLoss _ c).trans hopen.2⟩

/-- The renewal of the open LOSS record at the tail leaves it the one open record (R106). -/
theorem Journal.Wf.renew {j : Journal} (h : j.Wf) {r : Record} {rest : List Record} (hr : j.records = r :: rest)
    (ho : r.opened = true) : ((j.removeAt 0).put r).Wf := by
  have hhead : j.records[0]? = some r := by rw [hr]; rfl
  have hone := h.oneOpen
  rw [hr, List.countP_cons, if_pos ho] at hone
  refine (h.removeAt 0).put (h.full_removeAt hhead) fun _ => ⟨?_, h.openLoss r (hr ▸ List.mem_cons_self) ho⟩
  refine (Journal.hasOpen_eq_false_iff _).2 fun x hx => ?_
  have hrest : (j.removeAt 0).records = rest := by rw [Journal.removeAt, hr]; rfl
  have hzero : rest.countP (fun r => r.opened) = 0 := Nat.le_zero.1 (Nat.le_of_succ_le_succ hone)
  exact Bool.eq_false_iff.2 (List.countP_eq_zero.1 hzero x (hrest ▸ hx))

/-- Aging keeps the invariant and an open LOSS record open, however many records it evicts or renews (R106). -/
theorem Tally.age_wf (m : TimeMark) (fuel : Nat) {x : Tally} (h : x.journal.Wf) :
    (Tally.age m fuel x).journal.Wf ∧ (x.journal.hasOpen = true → (Tally.age m fuel x).journal.hasOpen = true) := by
  induction fuel generalizing x with
  | zero => exact ⟨h, id⟩
  | succ fuel ih =>
    unfold Tally.age
    split
    next => exact ⟨h, id⟩
    next r rest hr =>
      split_ifs with haged ho
      · obtain ⟨hwf, hopen⟩ := ih (x := ⟨(x.journal.removeAt 0).put r, x.losses⟩) (h.renew hr ho)
        exact ⟨hwf, fun _ => hopen (by simp [ho])⟩
      · obtain ⟨hlose, hloseOpen⟩ :=
          Tally.lose_wf (m := m) (x := ⟨x.journal.removeAt 0, x.losses⟩) (h.removeAt 0) r.recordClass
        obtain ⟨hwf, hopen⟩ := ih hlose
        exact ⟨hwf, fun _ => hopen hloseOpen⟩
      · exact ⟨h, id⟩

/-- A closed record appended to a class with room leaves the invariant, whatever is then aged (R104 step 4, R106). -/
theorem Tally.keep_wf {m : TimeMark} {x : Tally} {r : Record} (h : x.journal.Wf) (hroom : x.journal.full r.recordClass = false)
    (hr : r.opened = false) : (x.keep m r).journal.Wf :=
  (Tally.age_wf m _ (x := ⟨x.journal.put r, x.losses⟩) (h.put hroom fun ho => absurd ho (by simp [hr]))).1

/-- The journal as steps 1 and 2 of an append leave it: where the class is full, with a LOSS record open (R101, R104). -/
def Tally.prepare (m : TimeMark) (x : Tally) (c : RecordClass) : Tally :=
  if x.journal.full c && !x.journal.hasOpen then Tally.agingCheck m (x.openLoss m) else x

/-- Steps 1 and 2 of an append keep the invariant, and a class that is full after them has a LOSS record open (R104). -/
theorem Tally.prepare_wf (m : TimeMark) {x : Tally} (h : x.journal.Wf) (c : RecordClass) :
    (x.prepare m c).journal.Wf ∧ ((x.prepare m c).journal.full c = true → (x.prepare m c).journal.hasOpen = true) := by
  unfold Tally.prepare
  split
  next hcond =>
    simp only [Bool.and_eq_true, Bool.not_eq_true'] at hcond
    obtain ⟨hwf, hopen⟩ := Tally.openLoss_wf (m := m) h hcond.2
    obtain ⟨hage, hkept⟩ := Tally.age_wf m ((x.openLoss m).journal.records.length + 3) hwf
    exact ⟨hage, fun _ => hkept hopen⟩
  next hcond => exact ⟨h, fun hfull => by simpa [hfull] using hcond⟩

/-- The record of an append, before it takes its sequence number (R96, R100). -/
def Body.toRecord (b : Body) (m : TimeMark) (flags : RecordFlags) : Record :=
  ⟨0, b, m.stamp, m.untimed, m.holdover, flags, false⟩

/-- An append in the words of its steps (R104). -/
theorem Journal.append_eq (keepNewest : Bool) (m : TimeMark) (b : Body) (flags : RecordFlags) (j : Journal) :
    j.append keepNewest m b flags =
      let c := b.recordClass
      let x := Tally.prepare m ⟨j, 0⟩ c
      if x.journal.full c then
        if c == .general && !keepNewest then ⟨(x.lose m .general).journal, (x.lose m .general).losses, none⟩
        else
          match x.journal.oldest c with
          | some i => Tally.keep m (Tally.lose m ⟨x.journal.removeAt i, x.losses⟩ c) (b.toRecord m flags)
          | none => x.keep m (b.toRecord m flags)
      else x.keep m (b.toRecord m flags) := rfl

/-- An append keeps the invariant (R100 to R106). -/
theorem Journal.Wf.append {j : Journal} (h : j.Wf) (keepNewest : Bool) (m : TimeMark) (b : Body) (flags : RecordFlags) :
    (j.append keepNewest m b flags).journal.Wf := by
  obtain ⟨hx, hopen⟩ := Tally.prepare_wf m (x := ⟨j, 0⟩) h b.recordClass
  rw [Journal.append_eq]
  dsimp only
  generalize Tally.prepare m ⟨j, 0⟩ b.recordClass = x at hx hopen
  split_ifs with hfull hdiscard
  · exact (Tally.lose_wf hx .general).1
  · obtain ⟨i, r, hi, hr, hclass, hclosed⟩ := hx.exists_oldest hfull
    have hstill : (x.journal.removeAt i).hasOpen = true := (Journal.hasOpen_removeAt hr hclosed).trans (hopen hfull)
    have hroom : (x.journal.removeAt i).full b.recordClass = false := hclass ▸ hx.full_removeAt hr
    rw [hi]
    dsimp only
    rw [Tally.lose_of_hasOpen hstill]
    refine Tally.keep_wf ((hx.removeAt i).bumpLoss _) ?_ rfl
    rw [Journal.full_eq_false_iff, Journal.used_bumpLoss]
    exact (Journal.full_eq_false_iff _ _).1 hroom
  · exact Tally.keep_wf hx (Bool.eq_false_iff.2 hfull) rfl

end Sys2Proof.Machine
end

section
namespace Sys2Proof.Machine

-- One theorem after another, as in the tests: a thread for each proof takes more memory than the check gives.
set_option Elab.async false

/-! # The journal's requests (R105, R107 to R109, R111) -/

/-! ## What a pull, an acknowledgement and a rewind do to the journal (R105, R107 to R109) -/

/-- A pull delivers the smaller of the maximum and the undelivered count (R107). -/
theorem Journal.length_next (j : Journal) (max : Nat) :
    (j.next max).length = min max (j.records.length - j.cursor) := by
  rw [Journal.next, List.length_take, List.length_drop]

/-- The records are those before the cursor, those that a pull delivers and those behind them (R107). -/
theorem Journal.records_split (j : Journal) (max : Nat) :
    j.records = j.records.take j.cursor ++ j.next max ++ (j.records.drop j.cursor).drop max := by
  rw [List.append_assoc, Journal.next, List.take_append_drop, List.take_append_drop]

/-- A pull removes no record (R107). -/
theorem Journal.length_pull (j : Journal) (max : Nat) : (j.pull max).records.length = j.records.length := by
  conv_rhs => rw [j.records_split max]
  simp only [Journal.pull, List.length_append, List.length_map]

/-- A pull leaves the used counts (R93, R107). -/
@[simp] theorem Journal.used_pull (j : Journal) (max : Nat) (c : RecordClass) : (j.pull max).used c = j.used c := by
  conv_rhs => rw [Journal.used, j.records_split max]
  simp only [Journal.used, Journal.pull, List.countP_append, List.countP_map]
  rfl

/-- A pull opens no record (R105, R107). -/
theorem Journal.countP_opened_pull_le (j : Journal) (max : Nat) :
    (j.pull max).records.countP (fun r => r.opened) ≤ j.records.countP fun r => r.opened := by
  have hclosed : (j.next max).countP ((fun r => r.opened) ∘ Record.close) = 0 := List.countP_eq_zero.2 fun _ _ => nofun
  conv_rhs => rw [j.records_split max]
  simp only [Journal.pull, List.countP_append, List.countP_map, hclosed]
  omega

/-- A change of the middle of a list, position by position. -/
theorem getElem?_map_middle {α : Type} (f : α → α) (before middle after : List α) (i : Nat) :
    (before ++ middle.map f ++ after)[i]? = (before ++ middle ++ after)[i]?.map fun r =>
      if before.length ≤ i ∧ i < before.length + middle.length then f r else r := by
  rcases Nat.lt_or_ge i before.length with hi | hi
  · have hout : ¬before.length ≤ i := by omega
    simp [List.append_assoc, List.getElem?_append_left hi, hout]
  · rw [List.append_assoc, List.append_assoc, List.getElem?_append_right hi, List.getElem?_append_right hi]
    rcases Nat.lt_or_ge (i - before.length) middle.length with hm | hm
    · have hin : i < before.length + middle.length := by omega
      rw [List.getElem?_append_left (by simpa using hm), List.getElem?_append_left hm, List.getElem?_map]
      simp [hi, hin]
    · have hout : ¬i < before.length + middle.length := by omega
      rw [List.getElem?_append_right (by simpa using hm), List.getElem?_append_right hm]
      simp [hout]

/-- A pull changes the records that it delivers, and these by their delivery alone (R105, R107). -/
theorem Journal.getElem?_pull (j : Journal) (max i : Nat) :
    (j.pull max).records[i]? = j.records[i]?.map fun r =>
      if j.cursor ≤ i ∧ i < j.cursor + (j.next max).length then r.close else r := by
  have hmiddle := getElem?_map_middle Record.close (j.records.take j.cursor) (j.next max) ((j.records.drop j.cursor).drop max) i
  rw [← j.records_split max, List.length_take] at hmiddle
  have hlen := j.length_next max
  have hsame : (min j.cursor j.records.length ≤ i ∧ i < min j.cursor j.records.length + (j.next max).length) ↔
      (j.cursor ≤ i ∧ i < j.cursor + (j.next max).length) := by omega
  simp only [hsame] at hmiddle
  exact hmiddle

/-- The records between the cursors before and behind a pull are the delivered ones, closed (R105, R107). -/
theorem Journal.delivered_pull (j : Journal) (max : Nat) :
    ((j.pull max).records.drop j.cursor).take (j.next max).length = (j.next max).map Record.close := by
  rcases Nat.le_total j.cursor j.records.length with hc | hc
  · have htake : (j.records.take j.cursor).length = j.cursor := by rw [List.length_take]; omega
    simp only [Journal.pull]
    rw [List.append_assoc, List.drop_append_of_le_length htake.ge, List.drop_of_length_le htake.le, List.nil_append,
      List.take_append_of_le_length (by simp), ← List.length_map (f := Record.close), List.take_length]
  · have hnil : j.next max = [] := by
      rw [← List.length_eq_zero_iff, j.length_next]
      omega
    rw [hnil]
    rfl

/-- The delivery of records keeps the invariant: what is before the cursor is then closed (R95, R105, R107). -/
theorem Journal.Wf.pull {j : Journal} (h : j.Wf) (max : Nat) : (j.pull max).Wf := by
  have hlen := j.length_next max
  have hcursor := h.cursor
  have hcur : (j.pull max).cursor = j.cursor + (j.next max).length := rfl
  have hclosed := closed_take_iff.1 h.openUndelivered
  refine ⟨by simpa using h.general, by simpa using h.system, ?_, (j.countP_opened_pull_le max).trans h.oneOpen,
    closed_take_iff.2 fun i r hi hr => ?_, fun r hr ho => ?_⟩
  · rw [j.length_pull]
    omega
  · rw [j.getElem?_pull, Option.map_eq_some_iff] at hr
    obtain ⟨r', hr', rfl⟩ := hr
    split
    · rfl
    · exact hclosed i r' (by omega) hr'
  · obtain ⟨i, hi⟩ := List.mem_iff_getElem?.1 hr
    rw [j.getElem?_pull, Option.map_eq_some_iff] at hi
    obtain ⟨r', hr', rfl⟩ := hi
    split at ho
    · cases ho
    next hout =>
      rw [if_neg hout]
      exact h.openLoss r' (List.mem_iff_getElem?.2 ⟨i, hr'⟩) ho

/-- The removal of records from the head keeps the invariant (R108). -/
theorem Journal.Wf.removeFirst {j : Journal} (h : j.Wf) (n : Nat) : (j.removeFirst n).Wf := by
  have hsub : (j.records.drop n).Sublist j.records := List.drop_sublist _ _
  have hcursor := h.cursor
  refine ⟨hsub.countP_le.trans h.general, hsub.countP_le.trans h.system, ?_, hsub.countP_le.trans h.oneOpen, fun r hr => ?_,
    fun r hr => h.openLoss r (hsub.subset hr)⟩
  · show j.cursor - n ≤ (j.records.drop n).length
    rw [List.length_drop]
    omega
  · have hr' : r ∈ (j.records.drop n).take (j.cursor - n) := hr
    rw [← List.drop_take] at hr'
    exact h.openUndelivered r (List.mem_of_mem_drop hr')

/-- The cursor at the head leaves every record undelivered (R109). -/
theorem Journal.Wf.rewind {j : Journal} (h : j.Wf) : ({ j with cursor := 0 } : Journal).Wf :=
  ⟨h.general, h.system, Nat.zero_le _, h.oneOpen, fun _ hr => absurd hr List.not_mem_nil, h.openLoss⟩

/-! ## JOURNAL_PULL (R107) -/

/-- JOURNAL_PULL of 0 or of more than 3 records is refused (R107). -/
theorem reqJournalPull_range (s : State) {m : Byte} (h : m.toNat = 0 ∨ 3 < m.toNat) :
    reqJournalPull [m] s = .answer s .range [] := by
  have hbad : (decide (m.toNat < 1) || decide (3 < m.toNat)) = true := by
    simp only [Bool.or_eq_true, decide_eq_true_eq]
    omega
  exact Checks.guard_fail (c := { range := decide (m.toNat < 1) || decide (3 < m.toNat) }) (by rw [hbad]; rfl) _ _

/-- JOURNAL_PULL of 1 to 3 records answers their number, the undelivered count that is left and their bytes (R107). -/
theorem reqJournalPull_ok (s : State) {m : Byte} (h1 : 1 ≤ m.toNat) (h3 : m.toNat ≤ 3) :
    reqJournalPull [m] s = .answer (s.setJournal (s.journal.pull m.toNat)) .ok
      (byteOf (s.journal.next m.toNat).length ::
        be16n (s.journal.records.length - s.journal.cursor - (s.journal.next m.toNat).length) ++
        (((s.journal.pull m.toNat).records.drop s.journal.cursor).take (s.journal.next m.toNat).length).flatMap
          Record.encode) := by
  have hgood : (decide (m.toNat < 1) || decide (3 < m.toNat)) = false := by
    simp only [Bool.or_eq_false_iff, decide_eq_false_iff_not]
    omega
  have hleft : (s.journal.pull m.toNat).undelivered =
      s.journal.records.length - s.journal.cursor - (s.journal.next m.toNat).length := by
    rw [Journal.undelivered, Journal.length_pull, Nat.sub_sub]
    rfl
  rw [← hleft, Journal.delivered_pull, List.flatMap_map]
  exact Checks.guard_pass (c := { range := decide (m.toNat < 1) || decide (3 < m.toNat) }) (by rw [hgood]; rfl) _ _

/-! ## The bytes of a record (R96 to R99) -/

/-- The bits of the flags byte (R97). -/
theorem Record.flagsByte_bits (r : Record) :
    r.flagsByte.getLsbD 0 = r.untimed ∧ r.flagsByte.getLsbD 1 = r.holdover ∧ r.flagsByte.getLsbD 2 = r.flags.late ∧
    r.flagsByte.getLsbD 3 = r.flags.refused ∧ r.flagsByte.getLsbD 4 = r.flags.suppressed ∧
    r.flagsByte.getLsbD 5 = r.opened ∧ r.flagsByte.getLsbD 6 = r.flags.epoch ∧ r.flagsByte.getLsbD 7 = false := by
  simp [Record.flagsByte, getElem_bit]

/-- The general records are those of the kind codes from 10H on (R98). -/
theorem Body.recordClass_eq_general_iff (b : Body) : b.recordClass = .general ↔ 0x10 ≤ b.kindCode.toNat := by
  cases b <;> simp [Body.recordClass, Body.kindCode]

/-- Every kind has six payload bytes (R99). -/
theorem Body.length_payload (b : Body) : b.payload.length = 6 := by cases b <;> rfl

/-- The 16 bytes of a record, with its stamp in seconds and ticks (R53, R96). -/
theorem Record.encode_eq (r : Record) :
    r.encode = be16 r.seq ++ [r.body.kindCode, r.flagsByte] ++
      (be32 (BitVec.ofNat 32 (r.stamp.toNat / 1024)) ++ be16n (r.stamp.toNat % 1024)) ++ r.body.payload := by
  rw [Record.encode, Stamp.bytes_eq]

/-- Settles O34: the pull by the records it delivers, and the bytes of a record kind by kind. -/
theorem journalPullDelivers : Obligations.JournalPullDelivers := by
  refine ⟨fun s tag m rest hready => ⟨fun hm => ?range, fun h1 h3 => ?deliver⟩, fun r => ?bytes⟩
  case range => exact congrArg _ (State.perform_refused hready _ rfl (reqJournalPull_range _ hm))
  case deliver =>
    refine ⟨(s.journal.next m.toNat).length, s.journal.pull m.toNat, s.journal.length_next _, rfl, rfl,
      s.journal.length_pull _, fun i r hr => ?_,
      congrArg _ (State.perform_answered hready _ rfl (reqJournalPull_ok (s.took rest) h1 h3))⟩
    rw [Journal.getElem?_pull, hr]
    rfl
  case bytes =>
    refine ⟨r.body.kindCode, r.flagsByte, r.body.payload, r.flagsByte_bits, ?_, r.body.recordClass_eq_general_iff,
      r.body.length_payload, r.encode_eq⟩
    cases r.body with
    | timeStep old => exact ⟨rfl, Stamp.bytes_eq old⟩
    | _ => exact ⟨rfl, rfl⟩

/-! ## JOURNAL_ACK (R94, R108) -/

/-- A number precedes another by 1 to 32767 (R94). -/
theorem precedes_iff (a b : BitVec 16) : precedes a b = true ↔ 1 ≤ (b - a).toNat ∧ (b - a).toNat ≤ 32767 := by
  simp only [precedes, Bool.and_eq_true, decide_eq_true_eq]

/-- JOURNAL_ACK of a number that is to remove some records (R108). -/
theorem reqJournalAck_some (s : State) {x : BitVec 16} {n : Nat} (h : s.journal.ackCount x = some n) :
    reqJournalAck (be16 x) s = .answer (s.setJournal (s.journal.removeFirst n)) .ok (be16n n) := by
  have hx : u16At (be16 x) 0 = x := extract_append_extract x
  rw [reqJournalAck, hx, h]

/-- JOURNAL_ACK of a number that is refused (R108). -/
theorem reqJournalAck_none (s : State) {x : BitVec 16} (h : s.journal.ackCount x = none) :
    reqJournalAck (be16 x) s = .answer s .range [] := by
  have hx : u16At (be16 x) 0 = x := extract_append_extract x
  rw [reqJournalAck, hx, h]

/-- The longest run from the head with a property: all of it has the property, and what stands behind it has not. -/
theorem takeWhile_longest {α : Type} (p : α → Bool) (l : List α) :
    (l.takeWhile p).length ≤ l.length ∧ (∀ r ∈ l.take (l.takeWhile p).length, p r = true) ∧
      ∀ r, l[(l.takeWhile p).length]? = some r → ¬p r = true := by
  induction l with
  | nil => simp
  | cons a rest ih =>
    obtain ⟨hlen, hall, hnext⟩ := ih
    by_cases ha : p a = true
    · rw [List.takeWhile_cons_of_pos ha]
      refine ⟨Nat.succ_le_succ hlen, ?_, fun r hr => hnext r (by simpa using hr)⟩
      simpa [ha] using hall
    · rw [List.takeWhile_cons_of_neg ha]
      refine ⟨Nat.zero_le _, fun _ h => absurd h List.not_mem_nil, fun r hr => ?_⟩
      cases hr
      exact ha

/-- A number within the delivered span acknowledges the head (R108). -/
theorem Journal.one_le_acked (j : Journal) {x : BitVec 16}
    (hin : (x - j.headSeq).toNat < (j.cursorSeq - j.headSeq).toNat) (hspan : (j.cursorSeq - j.headSeq).toNat ≤ 32767) :
    1 ≤ (j.records.takeWhile fun r => r.seq == x || precedes r.seq x).length := by
  cases hr : j.records with
  | nil =>
    have hsame : j.cursorSeq = j.headSeq := by simp [Journal.headSeq, Journal.cursorSeq, hr]
    simp [hsame] at hin
  | cons r rest =>
    have hhead : j.headSeq = r.seq := by rw [Journal.headSeq, hr]
    have hnear : (x - r.seq).toNat ≤ 32767 := by
      rw [← hhead]
      omega
    have hacked : (r.seq == x || precedes r.seq x) = true := by
      rw [Bool.or_eq_true, beq_iff_eq, precedes_iff]
      bv_omega
    rw [List.takeWhile_cons, if_pos hacked, List.length_cons]
    exact Nat.le_add_left _ _

/-- Settles O35: the three cases of R108, the first with the longest run of records that the number acknowledges. -/
theorem journalAckRemoves : Obligations.JournalAckRemoves := by
  rintro s tag x rest hready h c hh hc hspan
  replace hh : s.journal.headSeq = h := hh.symm
  replace hc : s.journal.cursorSeq = c := hc.symm
  have hcount : s.journal.ackCount x = if (x - h).toNat < (c - h).toNat then
      some (s.journal.records.takeWhile fun r => r.seq == x || precedes r.seq x).length
      else if precedes x h then some 0 else none := by
    rw [Journal.ackCount, hh, hc]
  refine ⟨fun hin => ?remove, fun hout h1 h2 => ?stale, fun hout hnot => ?refuse⟩
  case remove =>
    rw [if_pos hin] at hcount
    obtain ⟨hlen, hall, hnext⟩ := takeWhile_longest (fun r => r.seq == x || precedes r.seq x) s.journal.records
    simp only [Bool.or_eq_true, beq_iff_eq, precedes_iff] at hall hnext
    refine ⟨_, ?_, hlen, hall, hnext,
      congrArg _ (State.perform_answered hready _ rfl (reqJournalAck_some (s.took rest) hcount))⟩
    exact s.journal.one_le_acked (hh.symm ▸ hc.symm ▸ hin) (hh.symm ▸ hc.symm ▸ hspan)
  case stale =>
    rw [if_neg hout, if_pos ((precedes_iff x h).2 ⟨h1, h2⟩)] at hcount
    exact congrArg _ (State.perform_answered hready _ rfl (reqJournalAck_some (s.took rest) hcount))
  case refuse =>
    rw [if_neg hout, if_neg (mt (precedes_iff x h).1 hnot)] at hcount
    exact congrArg _ (State.perform_refused hready _ rfl (reqJournalAck_none (s.took rest) hcount))

/-! ## JOURNAL_REWIND (R109) -/

/-- Settles O36: JOURNAL_REWIND has no checks. -/
theorem journalRewinds : Obligations.JournalRewinds := by
  intro s tag p rest hready
  exact congrArg _ (State.perform_answered hready _ rfl rfl)

/-! ## JOURNAL_STATUS (R111) -/

/-- A class's used count, as the claims write it (R93). -/
theorem Journal.used_eq (j : Journal) (c : RecordClass) : j.used c = j.records.countP fun r => r.body.recordClass = c := by
  simp only [Journal.used, Record.recordClass, Bool.beq_eq_decide_eq]

/-- The flags byte of JOURNAL_STATUS: bit 0 for records in the journal, bit 1 for an open LOSS record (R111). -/
theorem Journal.statusFlags_eq (j : Journal) :
    bit (!j.records.isEmpty) ||| (bit j.hasOpen <<< 1) =
      (if j.records = [] then 0 else 1) + (if ∃ r ∈ j.records, r.opened = true then 2 else 0) := by
  have hempty : j.records = [] ↔ j.records.isEmpty = true := List.isEmpty_iff.symm
  have hopen : (∃ r ∈ j.records, r.opened = true) ↔ j.hasOpen = true := List.any_eq_true.symm
  simp only [hempty, hopen]
  cases j.records.isEmpty <;> cases j.hasOpen <;> rfl

/-- JOURNAL_STATUS's payload, field by field (R111). -/
theorem State.journalStatusPayload_eq (s : State) :
    s.journalStatusPayload = be16n s.journal.records.length ++ be16n (s.journal.records.length - s.journal.cursor) ++
        [byteOf (s.journal.records.countP fun r => r.body.recordClass = .general),
          byteOf (s.journal.records.countP fun r => r.body.recordClass = .system)] ++
        be16 s.journal.nextSeq ++
        ([if s.settings.keepNewest then 1 else 0,
          (if s.journal.records = [] then 0 else 1) + (if ∃ r ∈ s.journal.records, r.opened = true then 2 else 0)] :
            List Byte) ++
        be16 (match s.journal.records with | [] => 0 | r :: _ => r.seq) ++
        be16 (match s.journal.records[s.journal.cursor]? with | some r => r.seq | none => s.journal.nextSeq) ++
        be16 (match s.journal.records.find? (fun r => r.opened) with | some r => r.seq | none => 0) := by
  rw [← Journal.used_eq, ← Journal.used_eq, ← Journal.statusFlags_eq]
  rfl

/-- Settles O38: JOURNAL_STATUS has no checks, and its payload is read field by field. -/
theorem journalStatusAnswers : Obligations.JournalStatusAnswers := by
  intro s tag p rest hready
  refine congrArg _ (State.perform_answered hready _ rfl ?_)
  exact congrArg _ (s.took rest).journalStatusPayload_eq

end Sys2Proof.Machine
end

section
namespace Sys2Proof.Machine

-- One theorem after another, as in the tests: a thread for each proof takes more memory than the check gives.
set_option Elab.async false

/-! # Every step keeps the journal's invariant (R93, R95, R97, R101 to R106) -/

/-- The journal of a state meets its invariant. -/
def State.JournalWf (s : State) : Prop := s.journal.Wf

/-- An operation that leaves the journal alone. -/
theorem State.JournalWf.of_frame {s t : State} (h : s.JournalWf) (hj : t.journal = s.journal) : t.JournalWf := by
  rw [State.JournalWf, hj]
  exact h

/-- An operation that appends one record to the journal (R100 to R106). -/
theorem State.JournalWf.of_append {s t : State} (h : s.JournalWf) {keepNewest : Bool} {m : TimeMark} {b : Body}
    {f : RecordFlags} (hj : t.journal = (s.journal.append keepNewest m b f).journal) : t.JournalWf := by
  rw [State.JournalWf, hj]
  exact Journal.Wf.append h _ _ _ _

/-- One such operation after another. -/
theorem State.JournalWf.foldl {α : Type} {f : State → α → State} (hf : ∀ s x, s.JournalWf → (f s x).JournalWf)
    (l : List α) {s : State} (h : s.JournalWf) : (l.foldl f s).JournalWf :=
  List.foldlRecOn l f h fun t ht x _ => hf t x ht

/-- An operation that happens on a condition and otherwise leaves the state. -/
theorem State.JournalWf.ite {s t : State} {c : Prop} [Decidable c] (ht : t.JournalWf) (hs : s.JournalWf) :
    (if c then t else s).JournalWf := by
  split
  · exact ht
  · exact hs

/-! ## The supervisor (R157 to R165) -/

/-- Entry to WARNED (R163). -/
theorem State.JournalWf.enterWarned {s : State} (h : s.JournalWf) {reason : WdReason} : (s.enterWarned reason).JournalWf :=
  h.of_append rfl

/-- Entry to RESETTING or HOLDING (R164). -/
theorem State.JournalWf.enterResetting {s : State} (h : s.JournalWf) {reason : WdReason} :
    (s.enterResetting reason).JournalWf := by
  unfold State.enterResetting
  dsimp only
  exact .ite (h.of_append rfl) (h.of_append rfl)

/-- Entry to REARM (R165). -/
theorem State.JournalWf.enterRearm {s : State} (h : s.JournalWf) {reason : WdReason} : (s.enterRearm reason).JournalWf :=
  h.of_append rfl

/-- The supervisor at entry to BACKUP (R169). -/
theorem State.JournalWf.suspend {s : State} (h : s.JournalWf) : s.suspend.JournalWf := by
  unfold State.suspend
  split
  iterate 4 exact h.of_append rfl
  all_goals exact h

/-- A timed transition (R162 to R165). -/
theorem State.JournalWf.timed {s : State} (h : s.JournalWf) {t : WdTimed} : (s.timed t).JournalWf := by
  cases t with
  | timeout | silence => exact h.enterWarned
  | grace | boot => exact h.enterResetting
  | pulseEnd => exact h.enterRearm

/-- A beat (R157). -/
theorem State.JournalWf.beat {s : State} (h : s.JournalWf) : s.beat.JournalWf := by
  have hcount : (s.setWd s.wd.count).JournalWf := h.of_frame rfl
  unfold State.beat
  dsimp only
  split
  · exact hcount.timed
  · exact hcount

/-- A timed transition commanded alone (log entry 6). -/
theorem State.JournalWf.beatOf {s : State} (h : s.JournalWf) {t : WdTimed} : (s.beatOf t).JournalWf := by
  unfold State.beatOf
  exact .ite h.beat h

/-! ## The clock (R46, R56, R59) -/

/-- SOURCE_CHANGE (R46, R48). -/
theorem State.JournalWf.sourceChange {s : State} (h : s.JournalWf) : s.sourceChange.JournalWf := by
  unfold State.sourceChange
  split
  · exact h
  · exact h.of_frame rfl
  · exact h.of_append rfl
  · exact h.of_append rfl
  · exact h.of_frame rfl

/-- EPOCH_END (R56). -/
theorem State.JournalWf.epochEndEvent {s : State} (h : s.JournalWf) : s.epochEndEvent.JournalWf := by
  unfold State.epochEndEvent
  exact .ite (h.of_append rfl) h

/-- A TIME_SET (R59). -/
theorem State.JournalWf.setClock {s : State} (h : s.JournalWf) {new : Stamp} : (s.setClock new).JournalWf :=
  h.of_append rfl

/-! ## The steps of a boundary (R50) -/

/-- Step (a) (R50). -/
theorem State.JournalWf.stepA {s : State} (h : s.JournalWf) : s.stepA.JournalWf :=
  .epochEndEvent (.sourceChange (h.of_frame rfl))

/-- Step (b) of a rate-window boundary (R123). -/
theorem State.JournalWf.stepB {s : State} (h : s.JournalWf) : s.stepB.JournalWf := by
  have hclose : (allSense.foldl State.closeWindow s).JournalWf := by
    refine .foldl (fun s n hs => ?_) _ h
    unfold State.closeWindow
    exact .ite hs (hs.of_append rfl)
  unfold State.stepB
  exact hclose.of_frame (State.setSense_journal _ _)

/-- A qualifying edge (R120 to R122). -/
theorem State.JournalWf.qualifyingEdge {s : State} (h : s.JournalWf) {n : Fin 8} {level : Bool} :
    (s.qualifyingEdge n level).JournalWf := by
  unfold State.qualifyingEdge
  dsimp only
  split_ifs
  · exact h.of_append rfl
  · exact h.of_append rfl
  · exact h.of_frame rfl

/-- The confirmed change of a line that is due (R118, R120). -/
theorem State.JournalWf.confirmIfDue {s : State} (h : s.JournalWf) {n : Fin 8} : (s.confirmIfDue n).JournalWf := by
  unfold State.confirmIfDue
  split
  · split
    · unfold State.confirmedChange
      dsimp only
      split
      · refine State.JournalWf.qualifyingEdge ?_
        exact h.of_frame rfl
      · exact h.of_frame rfl
    · exact h
  · exact h

/-- One line's turn in step (c) (R117 to R119). -/
theorem State.JournalWf.senseLine {s : State} (h : s.JournalWf) {pins : BitVec 8} {n : Fin 8} :
    (State.senseLine pins s n).JournalWf := by
  unfold State.senseLine
  dsimp only
  generalize hmark : (if s.settings.senseEdgeMode n && !s.sense[n].lastEdge then
    s.modSense n fun l => { l with restart := true } else s) = t
  have ht : t.JournalWf := h.of_frame (by rw [← hmark]; split <;> rfl)
  split_ifs
  · exact ht.of_frame rfl
  · refine State.JournalWf.confirmIfDue ?_
    exact ht.of_frame rfl
  · exact ht

/-- Step (c) (R117). -/
theorem State.JournalWf.stepC {s : State} (h : s.JournalWf) {pins : BitVec 8} : (s.stepC pins).JournalWf := by
  have hlines : (allSense.foldl (State.senseLine pins) s).JournalWf := .foldl (fun _ _ hs => hs.senseLine) _ h
  unfold State.stepC
  exact hlines.of_frame (State.setSense_journal _ _)

/-- The expiry of a counter (R133). -/
theorem State.JournalWf.expire {s : State} (h : s.JournalWf) {n : Fin 2} : (s.expire n).JournalWf := by
  have heffect : ((s.modCounter n fun x => x.expire (s.settings.cntOneShot n)).counterEffect n).JournalWf :=
    h.of_frame (by simp)
  unfold State.expire
  dsimp only
  generalize (s.modCounter n fun x => x.expire (s.settings.cntOneShot n)).counterEffect n = t at heffect
  have hrecord : (if t.settings.cntJournal n then t.record (.counterExpiry n t.counters[n].expiries) else t).JournalWf :=
    .ite (heffect.of_append rfl) heffect
  exact .ite (hrecord.of_frame rfl) (hrecord.of_frame rfl)

/-- A counter that receives a source event (R133). -/
theorem State.JournalWf.stepCounter {s : State} (h : s.JournalWf) {n : Fin 2} : (s.stepCounter n).JournalWf := by
  unfold State.stepCounter
  dsimp only
  split_ifs
  · refine State.JournalWf.expire ?_
    exact h.of_frame rfl
  · exact h.of_frame rfl
  · exact h

/-- One counter's turn in step (d) (R133). -/
theorem State.JournalWf.dealCounter {s : State} (h : s.JournalWf) {n : Fin 2} : (s.dealCounter n).JournalWf := by
  unfold State.dealCounter
  exact .ite h.stepCounter h

/-- Step (d) (R133). -/
theorem State.JournalWf.stepD {s : State} (h : s.JournalWf) : s.stepD.JournalWf := by
  unfold State.stepD
  exact .ite h.dealCounter.dealCounter h

/-- An action of a fire (R69). -/
theorem State.JournalWf.act {s : State} (h : s.JournalWf) {id : Fin 32} {fires : BitVec 16} {flags : RecordFlags} {a : Action} :
    (s.act id fires flags a).JournalWf := by
  cases a with
  | journal userTag => exact h.of_append rfl
  | notify | outputLevel | outputPulse | counterStart | counterStop => exact h.of_frame rfl

/-- The fire of an entry (R81). -/
theorem State.JournalWf.fireEntry {s : State} (h : s.JournalWf) {id : Fin 32} : (s.fireEntry id).JournalWf := by
  have hactions : (s.fireActions id s s.sched[id].actions).JournalWf := by
    refine .foldl (fun t a ht => ?_) _ h
    unfold State.fireAction
    exact .ite ht.act ht
  rw [State.fireEntry_eq]
  exact hactions.of_frame (State.setSched_journal _ _)

/-- Step (f) (R80). -/
theorem State.JournalWf.stepF {s : State} (h : s.JournalWf) : s.stepF.JournalWf := by
  have hfires : ((firingOrder s.sched s.isDue).foldl State.fireEntry s).JournalWf :=
    .foldl (fun _ _ hs => hs.fireEntry) _ h
  unfold State.stepF
  exact hfires.of_frame (State.setSched_journal _ _)

/-- Step (g) (R157). -/
theorem State.JournalWf.stepG {s : State} (h : s.JournalWf) : s.stepG.JournalWf := by
  unfold State.stepG
  exact .ite h.beat h

/-- Steps (a) to (h) (R50). -/
theorem State.JournalWf.boundary {s : State} (h : s.JournalWf) {pins : BitVec 8} : (s.boundary pins).JournalWf := by
  have hb : s.stepA.stepBIfDue.JournalWf := by
    unfold State.stepBIfDue
    exact .ite h.stepA.stepB h.stepA
  have hb' : (s.stepA.stepBIfDue.setSignals .none).JournalWf := hb.of_frame (State.setSignals_journal _ _)
  have he := (hb'.stepC (pins := pins)).stepD.of_frame (State.stepE_journal _)
  exact he.stepF.stepG.of_frame (by simp only [State.boundary, State.setSignals_journal, State.recompute_journal])

/-! ## Operating states, resets and supplies (R182 to R190) -/

/-- The release of the blocks appends the DEVICE_RESET record (R189). -/
theorem State.JournalWf.releaseBlocks {s : State} (h : s.JournalWf) {cause : ResetCause} :
    (s.releaseBlocks cause).JournalWf := h.of_append rfl

/-- The reset of the supervisor appends a record if its state changes (R170). -/
theorem State.JournalWf.releaseWd {s : State} (h : s.JournalWf) : s.releaseWd.JournalWf := by
  unfold State.releaseWd
  dsimp only
  exact .ite (h.of_frame rfl) (h.of_append rfl)

/-- The release appends no record behind those of its blocks and of the supervisor (R189). -/
theorem State.release_journal (s : State) (cause : ResetCause) :
    (s.release cause).journal = (s.releaseBlocks cause).releaseWd.journal := by
  unfold State.release
  dsimp only
  split <;> simp

/-- The release (R189). -/
theorem State.JournalWf.release {s : State} (h : s.JournalWf) {cause : ResetCause} : (s.release cause).JournalWf :=
  h.releaseBlocks.releaseWd.of_frame (s.release_journal cause)

/-- The return from BACKUP (R187). -/
theorem State.JournalWf.returnEvent {s : State} (h : s.JournalWf) : s.returnEvent.JournalWf := by
  rw [State.JournalWf, State.returnEvent_journal]
  have hup : (s.append (.powerUp s.backupSeconds) .none).JournalWf := h.of_append rfl
  split
  · exact hup.of_append (State.append_journal _ _ _)
  · exact hup

/-- The return from BACKUP with the release that may follow it (R187). -/
theorem State.JournalWf.returnFromBackup {s : State} (h : s.JournalWf) : s.returnFromBackup.JournalWf := by
  unfold State.returnFromBackup
  dsimp only
  exact .ite h.returnEvent.release h.returnEvent

/-- Entry to BACKUP (R186). -/
theorem State.JournalWf.enterBackup {s : State} (h : s.JournalWf) : s.enterBackup.JournalWf := by
  have hdown : (((s.setControl { s.control with op := .backup, restoreCount := 0, backupStart := s.time.uptime }).flush).record
      .powerDown).JournalWf := h.of_append rfl
  exact hdown.suspend.of_frame rfl

/-- The power-on values hold an empty journal (R115, R188). -/
theorem State.powerOnValues_journalWf (txn : Transaction) (op : OpState) (nrst : NrstReadings) (freeIndex : Nat)
    (pending : List Instr) : (State.powerOnValues txn op nrst freeIndex pending).JournalWf := Journal.empty_wf

/-- The end of the power-on hold (R188). -/
theorem State.powerOnReset_journalWf (s : State) : s.powerOnReset.JournalWf :=
  (State.powerOnValues_journalWf (if s.link.txn = .idle then .idle else .discarding) .powerOnHold s.control.nrst s.freeIndex
    s.pending).of_append rfl

/-- What the part does on the recognised level of nRST (R183). -/
theorem State.JournalWf.actOnNrst {s : State} (h : s.JournalWf) : s.actOnNrst.JournalWf := by
  unfold State.actOnNrst
  split
  · exact h.of_frame (State.enterHeld_journal s)
  · exact h.release
  · exact h

/-- A reading of nRST (R183). -/
theorem State.JournalWf.nrstReading {s : State} (h : s.JournalWf) {high : Bool} : (s.nrstReading high).JournalWf := by
  unfold State.nrstReading
  split
  · exact h
  · refine State.JournalWf.actOnNrst ?_
    exact h.of_frame rfl

/-- The reading of VMAIN that follows a boundary (R184). -/
theorem State.JournalWf.qualify {s : State} (h : s.JournalWf) {vmainGood : Bool} : (s.qualify vmainGood).JournalWf := by
  unfold State.qualify
  split_ifs
  · exact h.returnFromBackup
  · exact h.of_frame rfl
  · exact h.of_frame rfl
  · exact h

/-- A boundary with the restore qualification that follows it (R50, R184). -/
theorem State.JournalWf.tickBoundary {s : State} (h : s.JournalWf) {pins : BitVec 8} {vmainGood : Bool} :
    (s.tickBoundary pins vmainGood).JournalWf := by
  unfold State.tickBoundary
  exact .ite h.boundary.qualify h

/-- The recognition of nRST high (R183, R189). -/
theorem State.JournalWf.releaseEvent {s : State} (h : s.JournalWf) : s.releaseEvent.JournalWf := by
  unfold State.releaseEvent
  split_ifs
  · refine State.JournalWf.release ?_
    exact h.of_frame rfl
  · exact h.release
  · exact h

/-- A main fail (R184, R186, R191). -/
theorem State.JournalWf.backupEvent {s : State} (h : s.JournalWf) : s.backupEvent.JournalWf := by
  unfold State.backupEvent
  split
  · exact h.enterBackup
  · exact h.enterBackup
  · exact h.of_frame rfl
  · exact h
  · exact h

/-! ## The link -/

/-- The rise of nCS touches no record (R9, R12). -/
theorem State.ncsRise_journal (s : State) (bytes : List Byte) : (s.ncsRise bytes).journal = s.journal := by
  have hjudge (t : State) : t.judgeFrame.journal = t.journal := by
    unfold State.judgeFrame
    dsimp only
    split <;> split <;> rfl
  unfold State.ncsRise
  split
  · rfl
  · rfl
  · dsimp only
    split
    · rfl
    · exact hjudge _

/-! ## Performed requests (R27, R107 to R110) -/

/-- The state that a performed request leaves, before its response (R27). -/
def Reply.state : Reply → State
  | .answer s _ _ => s
  | .silent s => s

/-- A response touches no record (R17, R27). -/
theorem Reply.finish_journal (r : Reply) (tag : Tag) : (r.finish tag).journal = r.state.journal := by cases r <;> rfl

/-- A refusal touches no record (R28). -/
theorem Checks.guard_journalWf (c : Checks) {s : State} (h : s.JournalWf) {performed : Reply}
    (hp : performed.state.JournalWf) : (c.guard s performed).state.JournalWf := by
  unfold Checks.guard
  split
  · exact h
  · exact hp

/-- A feed (R160, R161). -/
theorem reqWdFeed_journalWf (p : List Byte) {s : State} (h : s.JournalWf) : (reqWdFeed p s).state.JournalWf := by
  unfold reqWdFeed
  dsimp only
  split
  · split_ifs
    · exact h.enterWarned
    · exact h.enterWarned
    · exact h.of_frame rfl
  iterate 2
    split_ifs
    · exact h.of_append rfl
    · exact h.enterResetting
  all_goals exact h

/-- Every request keeps the journal's invariant (R27). -/
theorem requestBody_journalWf (k : Kind) (selector p : List Byte) {s : State} (h : s.JournalWf) :
    (requestBody k selector p s).state.JournalWf := by
  cases k with
  | deviceReset =>
    unfold requestBody
    dsimp only
    split
    · exact Checks.guard_journalWf _ h (h.of_frame rfl)
    · have hflush : s.flush.JournalWf := h.of_frame (State.flush_journal s)
      exact Checks.guard_journalWf _ h hflush.release
  | timeSet => exact Checks.guard_journalWf _ h h.setClock
  | wdStart | wdStop => exact Checks.guard_journalWf _ h (h.of_append rfl)
  | wdFeed => exact reqWdFeed_journalWf p h
  | journalPull => exact Checks.guard_journalWf _ h (Journal.Wf.pull h _)
  | journalAck =>
    show (reqJournalAck p s).state.JournalWf
    unfold reqJournalAck
    split
    · exact Journal.Wf.removeFirst h _
    · exact h
  | journalRewind => exact Journal.Wf.rewind h
  | journalNote => exact h.of_append rfl
  | counterControl =>
    obtain ⟨f, hf⟩ := requestBody_counterControl selector
    rw [hf]
    refine Checks.guard_journalWf _ h ?_
    split <;> exact h.of_frame rfl
  | notifyEnable =>
    unfold requestBody
    dsimp only
    split <;> exact Checks.guard_journalWf _ h (h.of_frame rfl)
  | schedArm | schedPause | schedResume | schedCancel | schedRead | counterLatch | outputPulse | outputClaim =>
    refine Checks.guard_journalWf _ h ?_
    split <;> exact h.of_frame rfl
  | settingRead | settingWrite | lock | outputWrite | notifyAck => exact Checks.guard_journalWf _ h (h.of_frame rfl)
  | poll | deviceInfo | linkStats | timeRead | timeSlew | schedSummary | journalStatus | senseRead | counterRead | outputRead
  | wdStatus | notifyRead => exact h.of_frame rfl

/-- Performing the head request (R17, R18). -/
theorem State.JournalWf.perform {s : State} (h : s.JournalWf) {accepts : Request → Bool} {k : Kind} {selector : List Byte} :
    (s.perform accepts (requestBody k selector)).JournalWf := by
  obtain hwait | ⟨q, rest, -, -, hperform⟩ := s.perform_cases accepts (requestBody k selector)
  · rwa [hwait]
  · have htook : (s.took rest).JournalWf := h.of_frame rfl
    rw [hperform]
    exact (requestBody_journalWf k selector q.payload htook).of_frame (Reply.finish_journal _ _)

/-! ## The part's own running -/

/-- The divider's count, with the boundary at 32 (R47). -/
theorem State.JournalWf.countDivider {s : State} (h : s.JournalWf) {i : Nat} : (s.countDivider i).JournalWf := by
  unfold State.countDivider
  exact .ite h.tickBoundary (h.of_frame rfl)

/-- A crystal cycle (R45, R47). -/
theorem State.JournalWf.crystalCycle {s : State} (h : s.JournalWf) {i : Nat} : (s.crystalCycle i).JournalWf := by
  unfold State.crystalCycle
  dsimp only
  split_ifs
  · refine State.JournalWf.countDivider ?_
    exact h.of_frame rfl
  · exact h.of_frame rfl
  · exact h

/-- The count of RC cycles between the readings of nRST (R183). -/
theorem State.JournalWf.nrstCycle {s : State} (h : s.JournalWf) {i : Nat} : (s.nrstCycle i).JournalWf := by
  unfold State.nrstCycle
  exact .ite h.nrstReading (h.of_frame rfl)

/-- An RC cycle of the power-on hold (R188). -/
theorem State.JournalWf.holdCycle {s : State} (h : s.JournalWf) {i : Nat} : (s.holdCycle i).JournalWf := by
  unfold State.holdCycle
  split_ifs
  · exact s.powerOnReset_journalWf
  all_goals exact h.of_frame rfl

/-- An RC cycle (R45, R47, R183). -/
theorem State.JournalWf.rcCycle {s : State} (h : s.JournalWf) {i : Nat} : (s.rcCycle i).JournalWf := by
  have hcycle : (s.nrstCycle i).JournalWf := h.nrstCycle
  unfold State.rcCycle
  dsimp only
  split_ifs
  · exact hcycle.of_frame rfl
  · exact hcycle.countDivider.of_frame rfl
  · exact hcycle.holdCycle

/-- The part's own work: the head request or one oscillator cycle (R26, R44; log entry 2). -/
theorem State.JournalWf.ownWork {s : State} (h : s.JournalWf) : s.ownWork.JournalWf := by
  have hfree : (s.setFreeIndex (s.freeIndex + 1)).JournalWf := h.of_frame rfl
  unfold State.ownWork State.performHead State.oscillatorCycle
  dsimp only
  split_ifs
  · split
    · exact h
    · exact h.perform
  · exact h
  · exact hfree.crystalCycle
  · exact hfree.rcCycle

/-! ## Every command -/

/-- Every command keeps the journal's invariant. -/
theorem exec_journalWf {i : Instr} {s t : State} (h : s.JournalWf) (hexec : exec i s = .next t) : t.JournalWf := by
  by_cases hi : isRequest i = true
  · obtain ⟨accepts, k, selector, hperform⟩ := exec_request hi
    rw [hperform] at hexec
    cases hexec
    exact h.perform
  cases i with
  | ncsFall =>
    cases hexec
    unfold State.ncsFall
    split
    · split <;> exact h.of_frame rfl
    · exact h
    · exact h
  | ncsRise bits => cases hexec; exact h.of_frame (s.ncsRise_journal _)
  | tickBoundary pins good => cases hexec; exact h.tickBoundary
  | crystalGood | crystalFailed | gapLongerThan1Ms =>
    cases hexec
    exact .ite (h.of_frame rfl) h
  | sourceChange =>
    cases hexec
    exact .ite h.sourceChange h
  | epochEnd =>
    cases hexec
    split
    · refine State.JournalWf.epochEndEvent ?_
      exact h.of_frame rfl
    · exact h
  | rateWindowClose =>
    cases hexec
    exact .ite h.stepB h
  | confirmedChange n =>
    simp only [exec, execConfirmedChange] at hexec
    split at hexec
    · cases hexec
      split
      · refine State.JournalWf.confirmIfDue ?_
        exact h.of_frame rfl
      · exact h
    · cases hexec
  | expiry n =>
    simp only [exec, execExpiry] at hexec
    split at hexec
    · cases hexec
      exact .ite h.stepCounter h
    · cases hexec
  | revert n =>
    simp only [exec, execRevert] at hexec
    split at hexec
    · cases hexec
      exact .ite (h.of_frame rfl) h
    · cases hexec
  | fire n =>
    simp only [exec, execFire] at hexec
    split at hexec
    · cases hexec
      exact .ite h.fireEntry h
    · cases hexec
  | timeout | silence | grace | pulseEnd | boot => cases hexec; exact h.beatOf
  | enterHeld =>
    cases hexec
    unfold State.heldEvent
    exact .ite (h.of_frame (State.enterHeld_journal _)) h
  | release => cases hexec; exact h.releaseEvent
  | enterBackup => cases hexec; exact h.backupEvent
  | returnFromBackup =>
    cases hexec
    unfold State.returnFromBackupEvent
    exact .ite h.returnFromBackup h
  | powerLoss => cases hexec; exact State.powerOnValues_journalWf _ _ _ _ _
  | powerOnHold high =>
    cases hexec
    unfold State.powerOnHold
    exact .ite (h.of_frame rfl) h
  | powerOnReset =>
    cases hexec
    unfold State.powerOnResetEvent
    exact .ite s.powerOnReset_journalWf h
  | nrstReading high => cases hexec; exact h.nrstReading
  | _ => exact absurd rfl hi

/-- Settles O39: every command and the part's own work keep the invariant. -/
theorem journalInvariantKept : Obligations.JournalInvariantKept := by
  intro s t h hstep
  unfold step at hstep
  split at hstep
  · cases hstep
    exact State.JournalWf.ownWork h
  next i rest _ =>
    have hrest : (s.setPending rest).JournalWf := State.JournalWf.of_frame h rfl
    exact exec_journalWf hrest hstep

end Sys2Proof.Machine
end

section
namespace Sys2Proof.Machine

-- One theorem after another, as in the tests: a thread for each proof takes more memory than the check gives.
set_option Elab.async false

/-! # The lines and the conditions that force them (R145, R150, R151) -/

/-! ## The invariant under changes of the state -/

/-- What the lines' invariant reads of a state: the lines, the settings, the supervisor's state and the operating state (R150). -/
def State.forcingView (s : State) : Vector OutLine 6 × Settings × WdState × OpState :=
  (s.outputs, s.settings, s.wd.state, s.control.op)

/-- The conditions may change where the lines, their settings and what they force stay. -/
theorem State.LinesWf.of_conditions {s t : State} (h : s.LinesWf) (houtputs : t.outputs = s.outputs)
    (hsettings : t.settings = s.settings) (hforces : ∀ n, t.Forces n ↔ s.Forces n) : t.LinesWf := by
  intro n
  rw [hforces, houtputs, hsettings]
  exact h n

/-- An operation that changes nothing the invariant reads. -/
theorem State.LinesWf.of_frame {s t : State} (h : s.LinesWf) (hview : t.forcingView = s.forcingView) : t.LinesWf := by
  simp only [State.forcingView, Prod.mk.injEq] at hview
  obtain ⟨houtputs, hsettings, hwd, hop⟩ := hview
  exact h.of_conditions houtputs hsettings (State.forces_congr hwd hsettings hop)

/-- An operation that happens on a condition and otherwise leaves the state. -/
theorem State.LinesWf.ite {s t : State} {c : Prop} [Decidable c] (ht : t.LinesWf) (hs : s.LinesWf) :
    (if c then t else s).LinesWf := by
  split
  · exact ht
  · exact hs

/-- Bringing the lines in step makes the invariant hold, whatever stood before (R150). -/
theorem State.reforce_linesWf (s : State) : s.reforce.LinesWf := by
  intro n
  obtain ⟨hforced, hfree⟩ := s.reforce_spec n
  show (s.reforce.outputs[n].forced = true ↔ s.Forces n) ∧ (s.reforce.outputs[n].forced = true →
    s.reforce.outputs[n].level = s.settings.outSafe n ∧ s.reforce.outputs[n].pulse = none)
  by_cases h : s.Forces n
  · simp [hforced h, h]
  · simp [hfree h, h]

/-- The end of every change of operating state: the lines are brought in step and nINT is recomputed (R185 to R189). -/
theorem State.reforce_recompute_linesWf (s : State) : s.reforce.recompute.LinesWf :=
  s.reforce_linesWf.of_frame rfl

/-! ## Changes of the lines -/

/-- A line after a change that forcing allows: the forced flag stays, and a forced line keeps its level and has no pulse
(R145, R151). -/
def OutLine.Respects (l l' : OutLine) : Prop :=
  l'.forced = l.forced ∧ (l.forced = true → l'.level = l.level ∧ l'.pulse = none)

/-- Forcing allows every change of a line that is not forced. -/
theorem OutLine.Respects.of_free {l l' : OutLine} (hfree : l.forced = false) (hflag : l'.forced = l.forced) :
    l.Respects l' :=
  ⟨hflag, fun hforced => absurd (hfree.symm.trans hforced) Bool.false_ne_true⟩

/-- Step (e) moves no forced line, since no pulse is pending there (R149, R151). -/
theorem OutLine.Respects.deal {l : OutLine} (hpulse : l.forced = true → l.pulse = none) : l.Respects l.deal := by
  rw [OutLine.deal_eq]
  cases hl : l.pulse with
  | none =>
    refine ⟨?_, fun _ => ?_⟩ <;> split <;> simp [hl]
  | some p =>
    have hfree : l.forced = false := Bool.eq_false_iff.2 fun hforced => nomatch hl.symm.trans (hpulse hforced)
    refine .of_free hfree ?_
    dsimp only
    split_ifs <;> rfl

/-- A line stays as it is. -/
theorem State.LinesWf.respects_self {s : State} (h : s.LinesWf) (n : Fin 6) : s.outputs[n].Respects s.outputs[n] := by
  obtain ⟨-, hsafe⟩ := h n
  exact ⟨rfl, fun hforced => ⟨rfl, (hsafe hforced).2⟩⟩

/-- Changes of the lines that forcing allows. -/
theorem State.LinesWf.setOutputs {s : State} (h : s.LinesWf) {lines : Vector OutLine 6}
    (hlines : ∀ n : Fin 6, s.outputs[n].Respects lines[n]) : (s.setOutputs lines).LinesWf := by
  intro n
  obtain ⟨hflag, hkept⟩ := hlines n
  obtain ⟨hiff, hsafe⟩ := h n
  show (lines[n].forced = true ↔ s.Forces n) ∧
    (lines[n].forced = true → lines[n].level = s.settings.outSafe n ∧ lines[n].pulse = none)
  rw [hflag]
  refine ⟨hiff, fun hforced => ?_⟩
  obtain ⟨hlevel, hpulse⟩ := hkept hforced
  exact ⟨hlevel.trans (hsafe hforced).1, hpulse⟩

/-- The change of one line. -/
theorem State.modLine_outputs (s : State) (n m : Fin 6) (f : OutLine → OutLine) :
    (s.modLine n f).outputs[m] = if m = n then f s.outputs[m] else s.outputs[m] := by
  by_cases hm : m = n
  · simp [State.modLine, hm]
  · have hval : n.val ≠ m.val := fun hval => hm (Fin.ext hval.symm)
    simp [State.modLine, Vector.getElem_set_ne, hm, hval]

/-- A change of one line that forcing allows. -/
theorem State.LinesWf.modLine {s : State} (h : s.LinesWf) {n : Fin 6} {f : OutLine → OutLine}
    (hf : s.outputs[n].Respects (f s.outputs[n])) : (s.modLine n f).LinesWf := by
  refine h.setOutputs fun m => ?_
  have hline : (s.outputs.set n.val (f s.outputs[n]))[m] = if m = n then f s.outputs[m] else s.outputs[m] :=
    s.modLine_outputs n m f
  rw [hline]
  split
  next hm => exact hm ▸ hf
  next => exact h.respects_self m

/-- A change of one line that leaves the forced flag leaves that of every line. -/
theorem State.modLine_forced {f : OutLine → OutLine} (hf : ∀ l, (f l).forced = l.forced) (s : State) (n m : Fin 6) :
    (s.modLine n f).outputs[m].forced = s.outputs[m].forced := by
  rw [State.modLine_outputs]
  split
  · exact hf _
  · rfl

/-! ## The supervisor (R157 to R167) -/

/-- A state of the supervisor that forces no line (R150). -/
def WdState.ForcesNone (w : WdState) : Prop := w ≠ .holding ∧ w ≠ .resetting

/-- A transition between states of the supervisor that force no line. -/
theorem State.LinesWf.of_forcesNone {s t : State} (h : s.LinesWf) (hs : s.wd.state.ForcesNone) (ht : t.wd.state.ForcesNone)
    (houtputs : t.outputs = s.outputs) (hsettings : t.settings = s.settings) (hop : t.control.op = s.control.op) :
    t.LinesWf := by
  refine h.of_conditions houtputs hsettings fun n => ?_
  obtain ⟨hholding, hresetting⟩ := hs
  obtain ⟨hholding', hresetting'⟩ := ht
  simp only [State.Forces, hholding, hresetting, hholding', hresetting', hop, false_and]

/-- Entry to WARNED from WATCHING (R163). -/
theorem State.LinesWf.enterWarned {s : State} (h : s.LinesWf) (hwd : s.wd.state = .watching) {reason : WdReason} :
    (s.enterWarned reason).LinesWf :=
  h.of_forcesNone (by rw [hwd]; exact ⟨nofun, nofun⟩) ⟨nofun, nofun⟩ rfl rfl rfl

/-- Entry to WATCHING by a feed from WARNED or REARM (R161). -/
theorem State.LinesWf.feedBack {s : State} (h : s.LinesWf) (hwd : s.wd.state.ForcesNone) : s.feedBack.LinesWf :=
  h.of_forcesNone hwd ⟨nofun, nofun⟩ rfl rfl rfl

/-- The WATCHDOG_STAGE record of a transition (R172). -/
theorem State.LinesWf.stage {s : State} (h : s.LinesWf) {left : WdState} {reason : WdReason} :
    (s.stage left reason).LinesWf :=
  h.of_frame rfl

/-- Entry to RESETTING or HOLDING forces as the state entered says (R164, R167). -/
theorem State.enterResetting_linesWf (s : State) (reason : WdReason) : (s.enterResetting reason).LinesWf := by
  unfold State.enterResetting
  dsimp only
  exact .ite (State.reforce_linesWf _).stage (State.reforce_linesWf _).stage

/-- Entry to REARM ends the forcing by RESETTING (R165). -/
theorem State.enterRearm_linesWf (s : State) (reason : WdReason) : (s.enterRearm reason).LinesWf := by
  unfold State.enterRearm
  refine State.LinesWf.stage ?_
  exact (State.reforce_linesWf _).of_frame rfl

/-- The counting of the timers leaves the supervisor's state (R157). -/
theorem Supervisor.count_state (w : Supervisor) : w.count.state = w.state := by
  unfold Supervisor.count
  split <;> rfl

/-- The timeout and the silence are called for in WATCHING alone (R162). -/
theorem State.watching_of_timedDue {s : State} {t : WdTimed} (h : s.timedDue = some t) (ht : t = .timeout ∨ t = .silence) :
    s.wd.state = .watching := by
  unfold State.timedDue at h
  split at h
  next hwd => exact hwd
  iterate 3
    split_ifs at h
    cases h
    simp at ht
  all_goals cases h

/-- A timed transition that the timers call for (R162 to R165). -/
theorem State.LinesWf.timed {s : State} (h : s.LinesWf) {t : WdTimed} (hdue : s.timedDue = some t) : (s.timed t).LinesWf := by
  cases t with
  | timeout => exact h.enterWarned (State.watching_of_timedDue hdue (.inl rfl))
  | silence => exact h.enterWarned (State.watching_of_timedDue hdue (.inr rfl))
  | grace | boot => exact s.enterResetting_linesWf _
  | pulseEnd => exact s.enterRearm_linesWf _

/-- A beat (R157). -/
theorem State.LinesWf.beat {s : State} (h : s.LinesWf) : s.beat.LinesWf := by
  have hcount : (s.setWd s.wd.count).LinesWf := h.of_frame (by simp [State.forcingView, Supervisor.count_state])
  unfold State.beat
  dsimp only
  split
  next hdue => exact hcount.timed hdue
  next => exact hcount

/-- A timed transition commanded alone (log entry 6). -/
theorem State.LinesWf.beatOf {s : State} (h : s.LinesWf) {t : WdTimed} : (s.beatOf t).LinesWf := by
  unfold State.beatOf
  exact .ite h.beat h

/-! ## The steps of a boundary (R50) -/

/-- The effect of an expiry reaches no forced line (R134, R151). -/
theorem State.LinesWf.counterEffect {s : State} (h : s.LinesWf) {n : Fin 2} : (s.counterEffect n).LinesWf := by
  unfold State.counterEffect
  split
  · split
    next line _ hfree =>
      split
      · exact h
      · refine h.modLine (.of_free hfree.2 ?_)
        unfold OutLine.counterPulse
        split <;> rfl
      · exact h.modLine (.of_free hfree.2 rfl)
    next => exact h
  · exact h

/-- An expiry reads and writes the lines in its effect alone (R133). -/
theorem State.LinesWf.expire {s : State} (h : s.LinesWf) {n : Fin 2} : (s.expire n).LinesWf := by
  have hcount : (s.modCounter n fun x => x.expire (s.settings.cntOneShot n)).LinesWf := h.of_frame rfl
  refine (hcount.counterEffect (n := n)).of_frame ?_
  unfold State.expire
  dsimp only
  split_ifs <;> simp [State.forcingView]

/-- A counter that receives a source event (R133). -/
theorem State.LinesWf.stepCounter {s : State} (h : s.LinesWf) {n : Fin 2} : (s.stepCounter n).LinesWf := by
  have hcount : (s.modCounter n fun x => { x with value := x.value - 1 }).LinesWf := h.of_frame rfl
  unfold State.stepCounter
  exact .ite (.ite hcount.expire hcount) h

/-- One counter's turn in step (d) (R133). -/
theorem State.LinesWf.dealCounter {s : State} (h : s.LinesWf) {n : Fin 2} : (s.dealCounter n).LinesWf := by
  unfold State.dealCounter
  exact .ite h.stepCounter h

/-- Step (d) (R133). -/
theorem State.LinesWf.stepD {s : State} (h : s.LinesWf) : s.stepD.LinesWf := by
  unfold State.stepD
  exact .ite h.dealCounter.dealCounter h

/-- One line's turn in step (e) (R149). -/
theorem State.LinesWf.pulseLine {s : State} (h : s.LinesWf) {n : Fin 6} : (s.pulseLine n).LinesWf := by
  obtain ⟨-, hsafe⟩ := h n
  exact h.modLine (.deal fun hforced => (hsafe hforced).2)

/-- Step (e) (R149). -/
theorem State.LinesWf.stepE {s : State} (h : s.LinesWf) : s.stepE.LinesWf :=
  List.foldlRecOn allLines State.pulseLine h fun _ ht _ _ => ht.pulseLine

/-- An action on a line is performed only where the line is not forced (R70). -/
theorem State.not_forced_of_performed {s : State} {a : Action} {line : Fin 6} (h : s.outcomeOf a = .performed)
    (ha : (∃ level, a = .outputLevel line level) ∨ ∃ level width, a = .outputPulse line level width) :
    s.outputs[line].forced = false := by
  rcases ha with ⟨level, rfl⟩ | ⟨level, width, rfl⟩
  all_goals
    unfold State.outcomeOf at h
    dsimp only at h
    split_ifs at h with hop hrefused
    exact Bool.eq_false_iff.2 (not_or.1 hrefused).2

/-- No action of a fire changes a forced flag (R69). -/
theorem State.act_forced (s : State) (id : Fin 32) (fires : BitVec 16) (flags : RecordFlags) (a : Action) (n : Fin 6) :
    (s.act id fires flags a).outputs[n].forced = s.outputs[n].forced := by
  cases a with
  | outputLevel line level => exact State.modLine_forced (f := fun l => l.write level) (fun _ => rfl) s line n
  | outputPulse line level width => exact State.modLine_forced (f := fun l => l.startPulse level width) (fun _ => rfl) s line n
  | journal | notify | counterStart | counterStop => rfl

/-- An action that a fire begun in `s` performs, on what the actions before it left (R69, R81). -/
theorem State.LinesWf.act {s t : State} (h : t.LinesWf) {a : Action} (hperformed : s.outcomeOf a = .performed)
    (hflags : ∀ n : Fin 6, t.outputs[n].forced = s.outputs[n].forced) {id : Fin 32} {fires : BitVec 16}
    {flags : RecordFlags} : (t.act id fires flags a).LinesWf := by
  cases a with
  | outputLevel line level =>
    have hfree := State.not_forced_of_performed hperformed (.inl ⟨level, rfl⟩)
    exact h.modLine (.of_free ((hflags line).trans hfree) rfl)
  | outputPulse line level width =>
    have hfree := State.not_forced_of_performed hperformed (.inr ⟨level, width, rfl⟩)
    exact h.modLine (.of_free ((hflags line).trans hfree) rfl)
  | journal | notify | counterStart | counterStop => exact h.of_frame rfl

/-- The fire of an entry (R81): what its start settled of the lines still holds at each of its actions. -/
theorem State.LinesWf.fireEntry {s : State} (h : s.LinesWf) {id : Fin 32} : (s.fireEntry id).LinesWf := by
  have hactions : (s.fireActions id s s.sched[id].actions).LinesWf ∧
      ∀ n : Fin 6, (s.fireActions id s s.sched[id].actions).outputs[n].forced = s.outputs[n].forced := by
    refine List.foldlRecOn (motive := fun t => t.LinesWf ∧ ∀ n : Fin 6, t.outputs[n].forced = s.outputs[n].forced)
      s.sched[id].actions (s.fireAction id) ⟨h, fun _ => rfl⟩ fun t ht a _ => ?_
    obtain ⟨hlines, hflags⟩ := ht
    unfold State.fireAction
    split
    next hperformed => exact ⟨hlines.act hperformed hflags, fun n => (t.act_forced _ _ _ a n).trans (hflags n)⟩
    next => exact ⟨hlines, hflags⟩
  rw [State.fireEntry_eq]
  exact hactions.1.of_frame rfl

/-- Step (f) (R80). -/
theorem State.LinesWf.stepF {s : State} (h : s.LinesWf) : s.stepF.LinesWf := by
  have hfires : ((firingOrder s.sched s.isDue).foldl State.fireEntry s).LinesWf :=
    List.foldlRecOn _ State.fireEntry h fun _ ht _ _ => ht.fireEntry
  exact hfires.of_frame rfl

/-- Step (g) (R157). -/
theorem State.LinesWf.stepG {s : State} (h : s.LinesWf) : s.stepG.LinesWf := by
  unfold State.stepG
  exact .ite h.beat h

/-- Steps (a) to (h): no step before (d) touches a line (R50). -/
theorem State.LinesWf.boundary {s : State} (h : s.LinesWf) {pins : BitVec 8} : (s.boundary pins).LinesWf := by
  have hc : ((s.stepA.stepBIfDue.setSignals .none).stepC pins).LinesWf := h.of_frame (by simp [State.forcingView])
  exact hc.stepD.stepE.stepF.stepG.of_frame (by simp [State.boundary, State.forcingView])

/-! ## Operating states, resets and supplies (R182 to R190) -/

/-- The release ends in bringing the lines in step (R189). -/
theorem State.release_linesWf (s : State) (cause : ResetCause) : (s.release cause).LinesWf := by
  unfold State.release
  exact State.reforce_recompute_linesWf _

/-- The return from BACKUP, with the release that may follow it (R187). -/
theorem State.returnFromBackup_linesWf (s : State) : s.returnFromBackup.LinesWf := by
  have hreturn : s.returnEvent.LinesWf := by
    rw [State.returnEvent_eq]
    exact State.reforce_recompute_linesWf _
  unfold State.returnFromBackup
  exact .ite (State.release_linesWf _ _) hreturn

/-- At the power-on values no line is forced, and outside HELD no condition forces one (R155, R184). -/
theorem State.powerOnValues_linesWf (txn : Transaction) {op : OpState} (hop : op ≠ .held) (nrst : NrstReadings)
    (freeIndex : Nat) (pending : List Instr) : (State.powerOnValues txn op nrst freeIndex pending).LinesWf := by
  intro n
  have hline : (State.powerOnValues txn op nrst freeIndex pending).outputs[n] = .powerOn := by simp [State.powerOnValues]
  rw [hline]
  simp [OutLine.powerOn, State.Forces, State.powerOnValues, Supervisor.powerOn, hop]

/-- What the part does on the recognised level of nRST (R183). -/
theorem State.LinesWf.actOnNrst {s : State} (h : s.LinesWf) : s.actOnNrst.LinesWf := by
  unfold State.actOnNrst
  split
  · exact State.reforce_recompute_linesWf _
  · exact s.release_linesWf .pin
  · exact h

/-- A reading of nRST (R183). -/
theorem State.LinesWf.nrstReading {s : State} (h : s.LinesWf) {high : Bool} : (s.nrstReading high).LinesWf := by
  unfold State.nrstReading
  split
  · exact h
  · refine State.LinesWf.actOnNrst ?_
    exact h.of_frame rfl

/-- The reading of VMAIN that follows a boundary (R184). -/
theorem State.LinesWf.qualify {s : State} (h : s.LinesWf) {vmainGood : Bool} : (s.qualify vmainGood).LinesWf := by
  unfold State.qualify
  split_ifs
  · exact s.returnFromBackup_linesWf
  · exact h.of_frame rfl
  · exact h.of_frame rfl
  · exact h

/-- A boundary with the restore qualification that follows it (R50, R184). -/
theorem State.LinesWf.tickBoundary {s : State} (h : s.LinesWf) {pins : BitVec 8} {vmainGood : Bool} :
    (s.tickBoundary pins vmainGood).LinesWf := by
  unfold State.tickBoundary
  exact .ite h.boundary.qualify h

/-- The recognition of nRST high (R183, R189). -/
theorem State.LinesWf.releaseEvent {s : State} (h : s.LinesWf) : s.releaseEvent.LinesWf := by
  unfold State.releaseEvent
  exact .ite (State.release_linesWf _ _) (.ite (State.release_linesWf _ _) h)

/-- A main fail (R184, R186, R191). -/
theorem State.LinesWf.backupEvent {s : State} (h : s.LinesWf) : s.backupEvent.LinesWf := by
  unfold State.backupEvent
  split
  iterate 2 exact State.reforce_recompute_linesWf _
  · exact h.of_frame rfl
  all_goals exact h

/-- A supply rises into the power-on hold, which forces no line (R188). -/
theorem State.LinesWf.powerOnHold {s : State} (h : s.LinesWf) {high : Bool} : (s.powerOnHold high).LinesWf := by
  unfold State.powerOnHold
  split
  next hop => exact h.of_conditions rfl rfl fun n => by simp [State.Forces, hop]
  next => exact h

/-! ## The link -/

/-- The judgement of a frame takes the silence count from the supervisor and nothing else that the lines read (R12, R157). -/
theorem State.judgeFrame_forcingView (s : State) : s.judgeFrame.forcingView = s.forcingView := by
  unfold State.judgeFrame
  dsimp only
  split <;> split <;> simp [State.forcingView]

/-- The rise of nCS (R9, R12). -/
theorem State.LinesWf.ncsRise {s : State} (h : s.LinesWf) {bytes : List Byte} : (s.ncsRise bytes).LinesWf := by
  unfold State.ncsRise
  split
  · exact h
  · exact h.of_frame rfl
  · dsimp only
    split
    · exact h.of_frame rfl
    · exact h.of_frame (State.judgeFrame_forcingView _)

/-! ## Performed requests (R27) -/

/-- A response touches nothing that the lines read (R17, R27). -/
theorem Reply.finish_forcingView (r : Reply) (tag : Tag) : (r.finish tag).forcingView = r.state.forcingView := by
  cases r <;> rfl

/-- A request that no check refuses has passed STATE and SAFE_HOLD among them (R30). -/
theorem Checks.passed_of_result {c : Checks} (h : c.result = none) : c.state = false ∧ c.safeHold = false := by
  unfold Checks.result at h
  split_ifs at h with _ hstate hsafe
  exact ⟨Bool.eq_false_iff.2 hstate, Bool.eq_false_iff.2 hsafe⟩

/-- A refusal touches no line, and a request is performed only once its checks have passed (R28, R30). -/
theorem Checks.guard_linesWf (c : Checks) {s : State} (h : s.LinesWf) {performed : Reply}
    (hp : c.state = false → c.safeHold = false → performed.state.LinesWf) : (c.guard s performed).state.LinesWf := by
  unfold Checks.guard
  split
  next => exact h
  next hresult =>
    obtain ⟨hstate, hsafe⟩ := Checks.passed_of_result hresult
    exact hp hstate hsafe

/-- No line that a mask names is forced once the safe hold is passed (R147, R151). -/
theorem State.not_forced_of_anyNamed {s : State} {mask : Byte} (h : s.anyNamed mask (·.forced) = false) {n : Fin 6}
    (hn : mask.getLsbD n.val = true) : s.outputs[n].forced = false := by
  have hall : ∀ n : Fin 6, n ∈ allLines := by decide
  simp only [State.anyNamed, List.any_eq_false, Bool.and_eq_true, not_and, Bool.not_eq_true] at h
  exact h n (hall n) hn

/-- The line that a byte names is not forced once the safe hold is passed (R146, R148, R151). -/
theorem State.not_forced_of_namedLine {s : State} {b : Byte} (h : s.namedLine b (·.forced) = false) {n : Fin 6}
    (hn : finOf 6 b.toNat = some n) : s.outputs[n].forced = false := by
  simpa only [State.namedLine, hn] using h

/-- OUTPUT_WRITE (R147). -/
theorem reqOutputWrite_linesWf (p : List Byte) {s : State} (h : s.LinesWf) : (reqOutputWrite p s).state.LinesWf := by
  refine Checks.guard_linesWf _ h fun _ hsafe => h.setOutputs fun n => ?_
  simp only [Fin.getElem_fin, Vector.getElem_ofFn]
  split
  next hn => exact .of_free (State.not_forced_of_anyNamed hsafe hn) rfl
  next => exact h.respects_self n

/-- OUTPUT_PULSE (R148). -/
theorem reqOutputPulse_linesWf (p : List Byte) {s : State} (h : s.LinesWf) : (reqOutputPulse p s).state.LinesWf := by
  refine Checks.guard_linesWf _ h fun _ hsafe => ?_
  split
  next n hn =>
    show (s.modLine n fun l => l.startPulse _ _).LinesWf
    exact h.modLine (.of_free (State.not_forced_of_namedLine hsafe hn) rfl)
  next => exact h

/-- OUTPUT_CLAIM (R146). -/
theorem reqOutputClaim_linesWf (p : List Byte) {s : State} (h : s.LinesWf) : (reqOutputClaim p s).state.LinesWf := by
  refine Checks.guard_linesWf _ h fun _ hsafe => ?_
  split
  next n o hn _ =>
    show (s.modLine n fun l => { l with owner := o, pulse := none }).LinesWf
    exact h.modLine (.of_free (State.not_forced_of_namedLine hsafe hn) rfl)
  next => exact h

/-- WD_START leaves DORMANT alone (R158). -/
theorem reqWdStart_linesWf (p : List Byte) {s : State} (h : s.LinesWf) : (reqWdStart p s).state.LinesWf := by
  refine Checks.guard_linesWf _ h fun hstate _ => ?_
  have hwd : s.wd.state = .dormant := by simpa using hstate
  exact h.of_forcesNone (by rw [hwd]; exact ⟨nofun, nofun⟩) ⟨nofun, nofun⟩ rfl rfl rfl

/-- WD_STOP leaves WATCHING, WARNED and REARM alone (R159). -/
theorem reqWdStop_linesWf (p : List Byte) {s : State} (h : s.LinesWf) : (reqWdStop p s).state.LinesWf := by
  refine Checks.guard_linesWf _ h fun hstate _ => ?_
  have hwd : s.wd.state.ForcesNone := by
    constructor <;> intro hwd <;> simp [hwd] at hstate
  exact h.of_forcesNone hwd ⟨nofun, nofun⟩ rfl rfl rfl

/-- A feed (R160, R161). -/
theorem reqWdFeed_linesWf (p : List Byte) {s : State} (h : s.LinesWf) : (reqWdFeed p s).state.LinesWf := by
  unfold reqWdFeed
  dsimp only
  split
  next hwd =>
    split_ifs
    · exact h.enterWarned hwd
    · exact h.enterWarned hwd
    · exact h.of_frame rfl
  iterate 2
    next hwd =>
      split_ifs
      · exact h.feedBack (by rw [hwd]; exact ⟨nofun, nofun⟩)
      · exact s.enterResetting_linesWf _
  all_goals exact h

/-- Every request keeps the lines' invariant (R27). -/
theorem requestBody_linesWf (k : Kind) (selector p : List Byte) {s : State} (h : s.LinesWf) :
    (requestBody k selector p s).state.LinesWf := by
  cases k with
  | outputWrite => exact reqOutputWrite_linesWf p h
  | outputPulse => exact reqOutputPulse_linesWf p h
  | outputClaim => exact reqOutputClaim_linesWf p h
  | wdStart => exact reqWdStart_linesWf p h
  | wdStop => exact reqWdStop_linesWf p h
  | wdFeed => exact reqWdFeed_linesWf p h
  | settingWrite => exact Checks.guard_linesWf _ h fun _ _ => State.reforce_linesWf _
  | deviceReset =>
    unfold requestBody
    dsimp only
    split
    · exact Checks.guard_linesWf _ h fun _ _ => h.of_frame rfl
    · exact Checks.guard_linesWf _ h fun _ _ => State.release_linesWf _ _
  | journalAck =>
    show (reqJournalAck p s).state.LinesWf
    unfold reqJournalAck
    split <;> exact h.of_frame rfl
  | counterControl =>
    obtain ⟨f, hf⟩ := requestBody_counterControl selector
    rw [hf]
    refine Checks.guard_linesWf _ h fun _ _ => ?_
    split <;> exact h.of_frame rfl
  | notifyEnable =>
    unfold requestBody
    dsimp only
    split <;> exact Checks.guard_linesWf _ h fun _ _ => h.of_frame rfl
  | schedArm | schedPause | schedResume | schedCancel | schedRead | counterLatch =>
    refine Checks.guard_linesWf _ h fun _ _ => ?_
    split <;> exact h.of_frame rfl
  | settingRead | lock | timeSet | journalPull | notifyAck =>
    exact Checks.guard_linesWf _ h fun _ _ => h.of_frame rfl
  | poll | deviceInfo | linkStats | timeRead | timeSlew | schedSummary | journalRewind | journalNote | journalStatus | senseRead
  | counterRead | outputRead | wdStatus | notifyRead => exact h.of_frame rfl

/-- Performing the head request (R17, R18). -/
theorem State.LinesWf.perform {s : State} (h : s.LinesWf) {accepts : Request → Bool} {k : Kind} {selector : List Byte} :
    (s.perform accepts (requestBody k selector)).LinesWf := by
  obtain hwait | ⟨q, rest, -, -, hperform⟩ := s.perform_cases accepts (requestBody k selector)
  · rwa [hwait]
  · have htook : (s.took rest).LinesWf := h.of_frame rfl
    rw [hperform]
    exact (requestBody_linesWf k selector q.payload htook).of_frame (Reply.finish_forcingView _ _)

/-! ## The part's own running -/

/-- The divider's count, with the boundary at 32 (R47). -/
theorem State.LinesWf.countDivider {s : State} (h : s.LinesWf) {i : Nat} : (s.countDivider i).LinesWf := by
  unfold State.countDivider
  exact .ite h.tickBoundary (h.of_frame rfl)

/-- A crystal cycle (R45, R47). -/
theorem State.LinesWf.crystalCycle {s : State} (h : s.LinesWf) {i : Nat} : (s.crystalCycle i).LinesWf := by
  have hmonitor : (s.setTime s.time.crystalCycle).LinesWf := h.of_frame rfl
  unfold State.crystalCycle
  exact .ite (.ite hmonitor.countDivider hmonitor) h

/-- The count of RC cycles between the readings of nRST (R183). -/
theorem State.LinesWf.nrstCycle {s : State} (h : s.LinesWf) {i : Nat} : (s.nrstCycle i).LinesWf := by
  unfold State.nrstCycle
  exact .ite h.nrstReading (h.of_frame rfl)

/-- An RC cycle of the power-on hold (R188). -/
theorem State.LinesWf.holdCycle {s : State} (h : s.LinesWf) {i : Nat} : (s.holdCycle i).LinesWf := by
  unfold State.holdCycle
  split_ifs
  · exact State.reforce_recompute_linesWf _
  all_goals exact h.of_frame rfl

/-- An RC cycle (R45, R47, R183). -/
theorem State.LinesWf.rcCycle {s : State} (h : s.LinesWf) {i : Nat} : (s.rcCycle i).LinesWf := by
  have hcycle : (s.nrstCycle i).LinesWf := h.nrstCycle
  unfold State.rcCycle
  dsimp only
  split_ifs
  · exact hcycle.of_frame rfl
  · exact hcycle.countDivider.of_frame rfl
  · exact hcycle.holdCycle

/-- The part's own work: the head request or one oscillator cycle (R26, R44; log entry 2). -/
theorem State.LinesWf.ownWork {s : State} (h : s.LinesWf) : s.ownWork.LinesWf := by
  have hfree : (s.setFreeIndex (s.freeIndex + 1)).LinesWf := h.of_frame rfl
  unfold State.ownWork State.performHead State.oscillatorCycle
  dsimp only
  split_ifs
  · split
    · exact h
    · exact h.perform
  · exact h
  · exact hfree.crystalCycle
  · exact hfree.rcCycle

/-! ## Every command -/

/-- Every command keeps the lines' invariant. -/
theorem exec_linesWf {i : Instr} {s t : State} (h : s.LinesWf) (hexec : exec i s = .next t) : t.LinesWf := by
  by_cases hi : isRequest i = true
  · obtain ⟨accepts, k, selector, hperform⟩ := exec_request hi
    rw [hperform] at hexec
    cases hexec
    exact h.perform
  cases i with
  | ncsFall =>
    cases hexec
    unfold State.ncsFall
    split
    · split <;> exact h.of_frame rfl
    · exact h
    · exact h
  | ncsRise bits => cases hexec; exact h.ncsRise
  | tickBoundary pins good => cases hexec; exact h.tickBoundary
  | crystalGood | crystalFailed | gapLongerThan1Ms =>
    cases hexec
    exact .ite (h.of_frame rfl) h
  | sourceChange =>
    cases hexec
    exact .ite (h.of_frame (by simp [State.forcingView])) h
  | epochEnd =>
    cases hexec
    exact .ite (h.of_frame (by simp [State.forcingView])) h
  | rateWindowClose =>
    cases hexec
    exact .ite (h.of_frame (by simp [State.forcingView])) h
  | confirmedChange n =>
    simp only [exec, execConfirmedChange] at hexec
    split at hexec
    · cases hexec
      exact .ite (h.of_frame (by simp [State.forcingView])) h
    · cases hexec
  | expiry n =>
    simp only [exec, execExpiry] at hexec
    split at hexec
    · cases hexec
      exact .ite h.stepCounter h
    · cases hexec
  | revert n =>
    simp only [exec, execRevert] at hexec
    split at hexec
    · cases hexec
      exact .ite h.pulseLine h
    · cases hexec
  | fire n =>
    simp only [exec, execFire] at hexec
    split at hexec
    · cases hexec
      exact .ite h.fireEntry h
    · cases hexec
  | timeout | silence | grace | pulseEnd | boot => cases hexec; exact h.beatOf
  | enterHeld =>
    cases hexec
    unfold State.heldEvent
    exact .ite (State.reforce_recompute_linesWf _) h
  | release => cases hexec; exact h.releaseEvent
  | enterBackup => cases hexec; exact h.backupEvent
  | returnFromBackup =>
    cases hexec
    unfold State.returnFromBackupEvent
    exact .ite s.returnFromBackup_linesWf h
  | powerLoss => cases hexec; exact State.powerOnValues_linesWf (op := .unpowered) _ nofun _ _ _
  | powerOnHold high => cases hexec; exact h.powerOnHold
  | powerOnReset =>
    cases hexec
    unfold State.powerOnResetEvent
    exact .ite (State.reforce_recompute_linesWf _) h
  | nrstReading high => cases hexec; exact h.nrstReading
  | _ => exact absurd rfl hi

/-- Settles O49: every command and the part's own work keep the invariant. -/
theorem forcingInvariantKept : Obligations.ForcingInvariantKept := by
  intro s t h hstep
  unfold step at hstep
  split at hstep
  · cases hstep
    exact State.LinesWf.ownWork h
  next i rest _ =>
    have hrest : (s.setPending rest).LinesWf := State.LinesWf.of_frame h rfl
    exact exec_linesWf hrest hstep

end Sys2Proof.Machine
end

section
namespace Sys2Proof.Machine

-- One theorem after another, as in the tests: a thread for each proof takes more memory than the check gives.
set_option Elab.async false

/-! # OUTPUT_READ, REVERT and the pins (R145, R149, R153) -/

/-! ## The pins (R145, R188) -/

/-- Where the lines are driven, the pin follows the line's drive and level (R145). -/
theorem State.outPin_driven {s : State} (h : s.control.op = .active ∨ s.control.op = .held) (n : Fin 6) :
    s.outPin n = drivenPin (s.settings.outDrive n) s.outputs[n].level := if_pos h

/-- Where the lines are not driven, the pin is high-impedance (R145, R188; log entry 28). -/
theorem State.outPin_highZ {s : State}
    (h : s.control.op = .backup ∨ s.control.op = .powerOnHold ∨ s.control.op = .unpowered) (n : Fin 6) :
    s.outPin n = .highZ := by
  refine if_neg ?_
  rcases h with h | h | h <;> simp [h]

/-! ## OUTPUT_READ (R153) -/

/-- The flags of a line in OUTPUT_READ: bits 2 and 3 stand for a pending pulse and its revert level (R153). -/
def OutLine.readFlags (l : OutLine) : Byte :=
  bit l.level ||| (bit l.forced <<< 1) ||| (match l.pulse with | none => 0 | some q => 4 ||| (bit q.revert <<< 3))

/-- The five bytes of a line where the lines are driven (R145, R153). -/
theorem State.lineBytes_driven {s : State} (h : s.control.op = .active ∨ s.control.op = .held) (n : Fin 6) :
    s.lineBytes n =
      [s.outputs[n].owner.code, s.outputs[n].readFlags, (drivenPin (s.settings.outDrive n) s.outputs[n].level).code] ++
        be16 (match s.outputs[n].pulse with | none => 0 | some q => q.remaining) := by
  unfold State.lineBytes OutLine.readFlags
  rw [State.outPin_driven h]
  generalize s.outputs[n] = l
  obtain ⟨owner, level, pulse, fresh, forced⟩ := l
  cases pulse with
  | none => simp [bit]
  | some q => simp [bit, BitVec.or_assoc]

/-- OUTPUT_READ answers the bytes of the six lines and changes nothing (R153). -/
theorem exec_outputRead {s : State} {tag : Tag} {p : List Byte} {rest : List Request}
    (h : s.Ready ⟨.outputRead, tag, p⟩ rest) :
    exec .outputRead s = .next ((s.took rest).answered tag .ok ((List.finRange 6).flatMap (s.took rest).lineBytes)) := by
  show Host.Outcome.next (s.perform _ reqOutputRead) = _
  rw [State.perform_ready h _ rfl]
  rfl

/-! ## REVERT (R149; log entry 6) -/

/-- REVERT of a line of the part (R149). -/
theorem exec_revert (s : State) (n : Fin 6) :
    exec (.revert n.val) s = .next (if s.running && s.outputs[n].revertDue then s.pulseLine n else s) := by
  show execRevert n.val s = _
  rw [execRevert, finOf_val]

/-- A revert is due when the pulse of a line that is not fresh has one tick to count (R149). -/
theorem OutLine.revertDue_iff (l : OutLine) :
    l.revertDue = true ↔ l.fresh = false ∧ ∃ revert, l.pulse = some ⟨1, revert⟩ := by
  obtain ⟨owner, level, pulse, fresh, forced⟩ := l
  cases pulse with
  | none => simp [OutLine.revertDue, OutLine.countDown]
  | some q =>
    obtain ⟨remaining, revert⟩ := q
    have hlast : remaining - 1#16 = 0#16 ↔ remaining = 1#16 := by bv_omega
    simp [OutLine.revertDue, OutLine.countDown, hlast]

/-- The revert of a line that is due: the revert level, and no pulse (R149). -/
theorem OutLine.deal_of_last {l : OutLine} {revert : Bool} (hpulse : l.pulse = some ⟨1, revert⟩) (hfresh : l.fresh = false) :
    l.deal = { l with level := revert, pulse := none } := by
  simp [OutLine.deal_eq, hfresh, hpulse]

/-- REVERT of a line that is due (R149). -/
theorem exec_revert_due {s : State} {n : Fin 6} {revert : Bool} (hrun : s.running = true)
    (hpulse : s.outputs[n].pulse = some ⟨1, revert⟩) (hfresh : s.outputs[n].fresh = false) :
    exec (.revert n.val) s =
      .next { s with outputs := s.outputs.set n.val { s.outputs[n] with level := revert, pulse := none } } := by
  have hdue : s.outputs[n].revertDue = true := (OutLine.revertDue_iff _).2 ⟨hfresh, revert, hpulse⟩
  rw [exec_revert, hrun, hdue, ← OutLine.deal_of_last hpulse hfresh]
  rfl

/-- REVERT of a line that is not due does nothing (log entry 6). -/
theorem exec_revert_not_due {s : State} {n : Fin 6} (h : ∀ revert, s.outputs[n].pulse ≠ some ⟨1, revert⟩) :
    exec (.revert n.val) s = .next s := by
  rw [exec_revert, if_neg]
  intro hdue
  obtain ⟨-, revert, hpulse⟩ := (OutLine.revertDue_iff _).1 (Bool.and_eq_true_iff.1 hdue).2
  exact h revert hpulse

/-- Settles O48: the answer line by line, the revert by whether it is due, the pins by the operating state. -/
theorem outputReadAndRevert : Obligations.OutputReadAndRevert := by
  refine ⟨fun s tag p rest h => ?read, fun s n hop => ⟨fun revert hpulse hfresh => ?last, fun k revert hpulse hk => ?more,
    fun hnone => ?none⟩, fun s n => ⟨fun hop => ?driven, fun hop => s.outPin_highZ hop n⟩⟩
  case read =>
    rw [exec_outputRead h]
    refine congrArg (fun bytes => Host.Outcome.next ((s.took rest).answered tag .ok bytes))
      (List.flatMap_congr fun n _ => ?_)
    rw [State.lineBytes_driven (s := s.took rest) (.inl h.1)]
    refine congrArg (fun pin => [s.outputs[n].owner.code, s.outputs[n].readFlags, pin] ++ _) ?_
    show (drivenPin (s.settings.outDrive n) s.outputs[n].level).code = _
    cases s.settings.outDrive n <;> cases s.outputs[n].level <;> rfl
  case last =>
    have hrun : s.running = true := by
      rcases hop with hop | hop | hop <;> simp [State.running, hop]
    exact ⟨_, rfl, exec_revert_due hrun hpulse hfresh⟩
  case more =>
    refine exec_revert_not_due fun revert' hlast => ?_
    cases hpulse.symm.trans hlast
    exact absurd hk (by decide)
  case none => exact exec_revert_not_due fun revert hpulse => nomatch hnone.symm.trans hpulse
  case driven =>
    rw [State.outPin_driven hop]
    cases s.settings.outDrive n <;> cases s.outputs[n].level <;> rfl

end Sys2Proof.Machine
end

section
namespace Sys2Proof.Machine

-- One theorem after another, as in the tests: a thread for each proof takes more memory than the check gives.
set_option Elab.async false

/-! # The entries to HELD and BACKUP (R185, R186, R188, R191) -/

/-- A flush changes the link alone (R22). -/
theorem State.flush_eq (s : State) : s.flush = { s with link := s.link.Flushed } := by
  rw [State.flush, Link.flush_eq]
  rfl

/-! ## ENTER_HELD (R185) -/

/-- The part in HELD with nRST recognised low, the link flushed, before its lines are forced (R185). -/
def State.heldBefore (s : State) : State :=
  { s with
    control := { s.control with op := .held, holdMark := true, nrst := ⟨false, 0, false⟩ }
    link := s.link.Flushed }

/-- ENTER_HELD in ACTIVE (R185; log entry 8). -/
theorem exec_enterHeld {s : State} (h : s.control.op = .active) :
    exec .enterHeld s = .next ({ s.heldBefore with outputs := s.heldBefore.reforce.outputs } : State).Recomputed := by
  show Host.Outcome.next s.heldEvent = _
  rw [State.heldEvent, if_pos h, State.enterHeld, State.flush_eq, State.recompute_eq, State.reforce_eq]
  rfl

/-- ENTER_HELD elsewhere (log entry 5). -/
theorem exec_enterHeld_of_ne {s : State} (h : s.control.op ≠ .active) : exec .enterHeld s = .next s := by
  show Host.Outcome.next s.heldEvent = _
  rw [State.heldEvent, if_neg h]

/-! ## ENTER_BACKUP (R186) -/

/-- The part in BACKUP with the start stored, the link flushed and the POWER_DOWN record made, before its supervisor and its
lines follow (R186 steps 1 to 3). -/
def State.poweredDown (s : State) : State :=
  ({ s with
    control := { s.control with op := .backup, restoreCount := 0, backupStart := s.time.uptime }
    link := s.link.Flushed } : State).append .powerDown .none

/-- Entry to BACKUP in these words (R186). -/
theorem State.enterBackup_eq (s : State) : s.enterBackup = s.poweredDown.suspend.reforce.recompute := by
  rw [State.enterBackup, State.flush_eq]
  rfl

/-- A supervisor that runs is SUSPENDED, with its record (R169, R172). -/
theorem State.suspend_eq (s : State) :
    s.suspend = if s.wd.state = .dormant ∨ s.wd.state = .holding ∨ s.wd.state = .suspended then s
      else ({ s with wd := { s.wd with state := .suspended, timer := 0 } } : State).append
        (.watchdogStage s.wd.state .suspended .powerDown s.wd.hostResets) .none := by
  unfold State.suspend
  cases hwd : s.wd.state with
  | dormant | holding | suspended => simp
  | watching | warned | resetting | rearm =>
    rw [if_neg (by simp)]
    rfl

/-- ENTER_BACKUP in ACTIVE and HELD (R186). -/
theorem exec_enterBackup {s : State} (h : s.control.op = .active ∨ s.control.op = .held) :
    exec .enterBackup s =
      .next ({ s.poweredDown.suspend with outputs := s.poweredDown.suspend.reforce.outputs } : State).Recomputed := by
  have hevent : s.backupEvent = s.enterBackup := by
    unfold State.backupEvent
    rcases h with h | h <;> simp only [h]
  show Host.Outcome.next s.backupEvent = _
  rw [hevent, State.enterBackup_eq, State.recompute_eq, State.reforce_eq]

/-- ENTER_BACKUP in the power-on hold begins its run of good RC ticks again (R188, R191; log entries 7 and 21). -/
theorem exec_enterBackup_powerOnHold {s : State} (h : s.control.op = .powerOnHold) :
    exec .enterBackup s = .next { s with control := { s.control with restoreCount := 0 } } := by
  show Host.Outcome.next s.backupEvent = _
  simp only [State.backupEvent, h]
  rfl

/-- ENTER_BACKUP in BACKUP and without a supply is no event (R191; log entry 5). -/
theorem exec_enterBackup_no_event {s : State} (h : s.control.op = .backup ∨ s.control.op = .unpowered) :
    exec .enterBackup s = .next s := by
  show Host.Outcome.next s.backupEvent = _
  rcases h with h | h <;> simp only [State.backupEvent, h]

/-- Settles O56: each command by its own lemma above, and the forcing by what `reforce` does. -/
theorem restrictedEntries : Obligations.RestrictedEntries := by
  intro s
  refine ⟨fun hop => ⟨s.heldBefore, s.heldBefore.reforce.outputs, rfl, s.heldBefore.reforce_spec, exec_enterHeld hop⟩,
    exec_enterHeld_of_ne, fun hop => ?backup, exec_enterBackup_powerOnHold, exec_enterBackup_no_event⟩
  case backup =>
    exact ⟨s.poweredDown, _, s.poweredDown.suspend, _, rfl, rfl, s.poweredDown.suspend_eq,
      s.poweredDown.suspend.reforce_spec, exec_enterBackup hop⟩

end Sys2Proof.Machine
end

section
namespace Sys2Proof.Machine

-- One theorem after another, as in the tests: a thread for each proof takes more memory than the check gives.
set_option Elab.async false

/-! # The supervisor's transitions (R156 to R170) -/

/-! ## In the words of the claims -/

/-- Entry to WARNED is what the claims call it (R163). -/
theorem State.enterWarned_eq (s : State) (reason : WdReason) : s.enterWarned reason = s.Warned reason := by
  unfold State.enterWarned State.Warned
  rw [State.raise_eq]
  rfl

/-- Entry to RESETTING or HOLDING is what the claims call an escalation (R164, R167). -/
theorem State.enterResetting_escalated (s : State) (reason : WdReason) : s.Escalated reason (s.enterResetting reason) := by
  constructor
  · intro hexhausted
    refine ⟨_, _, rfl, State.reforce_spec _, ?_⟩
    unfold State.enterResetting
    rw [if_pos hexhausted]
    rfl
  · intro hallowed
    refine ⟨_, _, rfl, State.reforce_spec _, ?_⟩
    unfold State.enterResetting State.flush
    rw [if_neg (by omega), Link.flush_eq]
    rfl

/-- A re-arming, but for the forcing that it ends (R165, R169). -/
def State.rearming (s : State) : State :=
  { s with wd := { s.wd with state := .rearm, token := 0, timer := BitVec.ofNat 12 s.settings.wdBootBeats } }

/-- Entry to REARM (R165, R169, R172). -/
theorem State.enterRearm_eq (s : State) (reason : WdReason) :
    s.enterRearm reason = ({ s.rearming with
        outputs := s.rearming.reforce.outputs, notify := s.rearming.notify.Raised 6 } : State).append
      (.watchdogStage s.wd.state .rearm reason s.wd.hostResets) .none := by
  unfold State.enterRearm
  rw [State.raise_eq]
  rfl

/-! ## The supervisor that each leaves -/

/-- The supervisor after an entry to WARNED (R163). -/
theorem State.enterWarned_wd (s : State) (reason : WdReason) :
    (s.enterWarned reason).wd = { s.wd with
      state := .warned
      timer := BitVec.ofNat 12 s.settings.wdGrace
      goodRun := if s.wd.goodRun < 16 then 0 else s.wd.goodRun } := rfl

/-- The supervisor after an escalation (R164, R167). -/
theorem State.enterResetting_wd (s : State) (reason : WdReason) :
    (s.enterResetting reason).wd =
      if s.settings.wdRetry < s.wd.hostResets + 1 then
        { s.wd with state := .holding, timer := 0, hostResets := s.wd.hostResets + 1 }
      else
        { s.wd with
          state := .resetting
          timer := BitVec.ofNat 12 s.settings.wdPulse
          goodRun := 0
          hostResets := s.wd.hostResets + 1 } := by
  unfold State.enterResetting
  dsimp only
  split_ifs <;> rfl

/-- The supervisor after a good feed in WATCHING: the run of 16 is reached from 15 alone (R160, R166). -/
theorem Supervisor.goodFeed_eq (w : Supervisor) :
    w.goodFeed = { w with
      elapsed := 0
      token := w.token + 1
      goodRun := if w.goodRun < 16 then w.goodRun + 1 else w.goodRun
      hostResets := if w.goodRun = 15 then 0 else w.hostResets } := by
  have hreached : (w.goodRun < 16 ∧ (if w.goodRun < 16 then w.goodRun + 1 else w.goodRun) = 16) ↔ w.goodRun = 15 := by
    split <;> omega
  simp only [Supervisor.goodFeed, hreached]

/-- The supervisor at entry to BACKUP (R169). -/
theorem State.suspend_wd (s : State) :
    s.suspend.wd = if s.wd.state = .dormant ∨ s.wd.state = .holding ∨ s.wd.state = .suspended then s.wd
      else { s.wd with state := .suspended, timer := 0 } := by
  rw [State.suspend_eq]
  split <;> rfl

/-- The settings after a release (R189). -/
theorem State.release_settings (s : State) (cause : ResetCause) :
    (s.release cause).settings = s.settings.afterReset s.control.locks := by
  have hblocks : (s.releaseBlocks cause).settings = s.settings.afterReset s.control.locks := rfl
  unfold State.release
  dsimp only
  split <;> simp [hblocks]

/-- The supervisor after a release (R170, R189). -/
theorem State.release_wd (s : State) (cause : ResetCause) :
    (s.release cause).wd = .afterReset (s.settings.afterReset s.control.locks) s.control.locks := by
  have hblocks : (s.releaseBlocks cause).settings = s.settings.afterReset s.control.locks := rfl
  have hreset : (s.releaseBlocks cause).releaseWd.wd =
      .afterReset (s.settings.afterReset s.control.locks) s.control.locks := by
    unfold State.releaseWd
    dsimp only
    split <;> simp [hblocks]
  unfold State.release
  dsimp only
  split <;> simp [hreset]

/-- The timers call for a transition in the states that count alone, so never in HOLDING (R157). -/
theorem State.ne_holding_of_timedDue {s : State} {t : WdTimed} (h : s.timedDue = some t) : s.wd.state ≠ .holding := by
  intro hwd
  simp [State.timedDue, hwd] at h

end Sys2Proof.Machine
end

section
namespace Sys2Proof.Machine

-- One theorem after another, as in the tests: a thread for each proof takes more memory than the check gives.
set_option Elab.async false

/-! # The supervisor's invariant (R156, R166, R169) -/

/-! ## The invariant under changes of the state -/

/-- What the supervisor's invariant reads of a state: the supervisor and the operating state. -/
def State.wdView (s : State) : Supervisor × OpState := (s.wd, s.control.op)

/-- An operation that changes nothing the invariant reads. -/
theorem State.WdWf.of_frame {s t : State} (h : s.WdWf) (hview : t.wdView = s.wdView) : t.WdWf := by
  simp only [State.wdView, Prod.mk.injEq] at hview
  obtain ⟨hwd, hop⟩ := hview
  unfold State.WdWf
  rw [hwd, hop]
  exact h

/-- An operation that happens on a condition and otherwise leaves the state. -/
theorem State.WdWf.ite {s t : State} {c : Prop} [Decidable c] (ht : t.WdWf) (hs : s.WdWf) : (if c then t else s).WdWf := by
  split
  · exact ht
  · exact hs

/-- A supervisor whose timer runs needs its counts in range alone (R156). -/
theorem State.wdWf_of_timed {s : State} (hstate : s.wd.state = .warned ∨ s.wd.state = .resetting ∨ s.wd.state = .rearm)
    (hrun : s.wd.goodRun ≤ 16) (hresets : s.wd.hostResets ≤ 7) : s.WdWf := by
  refine ⟨hrun, by omega, fun _ => hresets, ?_, ?_⟩
  all_goals rcases hstate with hstate | hstate | hstate <;> simp [hstate]

/-- A supervisor in DORMANT or WATCHING needs its timer at 0 besides (R156). -/
theorem State.wdWf_of_untimed {s : State} (hstate : s.wd.state = .dormant ∨ s.wd.state = .watching)
    (hrun : s.wd.goodRun ≤ 16) (hresets : s.wd.hostResets ≤ 7) (htimer : s.wd.timer = 0) : s.WdWf := by
  refine ⟨hrun, by omega, fun _ => hresets, fun hsuspended => ?_, fun _ => htimer⟩
  rcases hstate with hstate | hstate <;> rw [hstate] at hsuspended <;> cases hsuspended

/-- The counts of a supervisor outside HOLDING (R156, R166). -/
theorem State.WdWf.counts {s : State} (h : s.WdWf) (hstate : s.wd.state ≠ .holding) :
    s.wd.goodRun ≤ 16 ∧ s.wd.hostResets ≤ 7 := by
  obtain ⟨hrun, -, hresets, -, -⟩ := h
  exact ⟨hrun, hresets hstate⟩

/-! ## The transitions (R157 to R167) -/

/-- Entry to WARNED (R163). -/
theorem State.WdWf.enterWarned {s : State} (h : s.WdWf) (hstate : s.wd.state ≠ .holding) {reason : WdReason} :
    (s.enterWarned reason).WdWf := by
  obtain ⟨hrun, hresets⟩ := h.counts hstate
  refine State.wdWf_of_timed (.inl rfl) ?_ hresets
  rw [State.enterWarned_wd]
  dsimp only
  split <;> omega

/-- An escalation: the count that exceeds WD_RETRY diverts to HOLDING, so in RESETTING it is at most 7 (R164, R167). -/
theorem State.WdWf.enterResetting {s : State} (h : s.WdWf) (hretry : s.settings.wdRetry ≤ 7)
    (hstate : s.wd.state ≠ .holding) {reason : WdReason} : (s.enterResetting reason).WdWf := by
  obtain ⟨hrun, hresets⟩ := h.counts hstate
  have hwd := s.enterResetting_wd reason
  split at hwd
  next hexhausted =>
    unfold State.WdWf
    rw [hwd]
    exact ⟨hrun, Nat.succ_le_succ hresets, fun hne => absurd rfl hne, nofun, fun _ => rfl⟩
  next hallowed =>
    refine State.wdWf_of_timed (.inr (.inl ?_)) ?_ ?_ <;> rw [hwd]
    · exact Nat.zero_le _
    · show s.wd.hostResets + 1 ≤ 7
      omega

/-- Entry to REARM (R165, R169). -/
theorem State.WdWf.enterRearm {s : State} (h : s.WdWf) (hstate : s.wd.state ≠ .holding) {reason : WdReason} :
    (s.enterRearm reason).WdWf := by
  obtain ⟨hrun, hresets⟩ := h.counts hstate
  have hwd := s.enterRearm_wd reason
  refine State.wdWf_of_timed (.inr (.inr ?_)) ?_ ?_ <;> rw [hwd]
  · exact hrun
  · exact hresets

/-- Entry to WATCHING by a feed (R161). -/
theorem State.WdWf.feedBack {s : State} (h : s.WdWf) (hstate : s.wd.state ≠ .holding) : s.feedBack.WdWf := by
  obtain ⟨hrun, hresets⟩ := h.counts hstate
  exact State.wdWf_of_untimed (.inr rfl) hrun hresets rfl

/-- A good feed in WATCHING: the run ends at 16 (R160, R166). -/
theorem State.WdWf.goodFeed {s : State} (h : s.WdWf) (hstate : s.wd.state = .watching) : (s.setWd s.wd.goodFeed).WdWf := by
  obtain ⟨hrun, hresets⟩ := h.counts (by rw [hstate]; nofun)
  obtain ⟨-, -, -, -, htimer⟩ := h
  rw [Supervisor.goodFeed_eq]
  refine State.wdWf_of_untimed (.inr hstate) ?_ ?_ (htimer (.inr (.inl hstate)))
  · show (if s.wd.goodRun < 16 then s.wd.goodRun + 1 else s.wd.goodRun) ≤ 16
    split <;> omega
  · show (if s.wd.goodRun = 15 then 0 else s.wd.hostResets) ≤ 7
    split <;> omega

/-- The count of the timers at a beat leaves a timer that stands at 0 (R157). -/
theorem State.WdWf.count {s : State} (h : s.WdWf) : (s.setWd s.wd.count).WdWf := by
  unfold Supervisor.count
  split
  next => exact h
  iterate 3
    next hstate =>
      obtain ⟨hrun, hresets⟩ := h.counts (by rw [hstate]; nofun)
      exact State.wdWf_of_timed (by simp [hstate]) hrun hresets
  all_goals exact h

/-- A timed transition that the timers call for (R162 to R165). -/
theorem State.WdWf.timed {s : State} (h : s.WdWf) (hretry : s.settings.wdRetry ≤ 7) {t : WdTimed}
    (hdue : s.timedDue = some t) : (s.timed t).WdWf := by
  have hstate := State.ne_holding_of_timedDue hdue
  cases t with
  | timeout | silence => exact h.enterWarned hstate
  | grace | boot => exact h.enterResetting hretry hstate
  | pulseEnd => exact h.enterRearm hstate

/-- A beat (R157). -/
theorem State.WdWf.beat {s : State} (h : s.WdWf) (hretry : s.settings.wdRetry ≤ 7) : s.beat.WdWf := by
  unfold State.beat
  dsimp only
  split
  next hdue => exact h.count.timed hretry hdue
  next => exact h.count

/-- A timed transition commanded alone (log entry 6). -/
theorem State.WdWf.beatOf {s : State} (h : s.WdWf) (hretry : s.settings.wdRetry ≤ 7) {t : WdTimed} : (s.beatOf t).WdWf := by
  unfold State.beatOf
  exact .ite (h.beat hretry) h

/-- Step (g) (R157). -/
theorem State.WdWf.stepG {s : State} (h : s.WdWf) (hretry : s.settings.wdRetry ≤ 7) : s.stepG.WdWf := by
  unfold State.stepG
  exact .ite (h.beat hretry) h

/-- Steps (a) to (h): step (g) alone touches the supervisor (R50). -/
theorem State.WdWf.boundary {s : State} (h : s.WdWf) (hretry : s.settings.wdRetry ≤ 7) {pins : BitVec 8} :
    (s.boundary pins).WdWf := by
  have hf : ((s.stepA.stepBIfDue.setSignals .none).stepC pins).stepD.stepE.stepF.WdWf :=
    h.of_frame (by simp [State.wdView])
  have hg := hf.stepG (by simpa using hretry)
  exact hg.of_frame (by simp [State.boundary, State.wdView])

/-! ## Operating states, resets and supplies (R182 to R190) -/

/-- A release resets the supervisor (R170, R189). -/
theorem State.release_wdWf (s : State) (cause : ResetCause) : (s.release cause).WdWf := by
  have hwd := s.release_wd cause
  unfold Supervisor.afterReset at hwd
  split at hwd
  · exact State.wdWf_of_timed (by simp [hwd]) (by simp [hwd]) (by simp [hwd])
  · exact State.wdWf_of_untimed (by simp [hwd, Supervisor.powerOn]) (by simp [hwd, Supervisor.powerOn])
      (by simp [hwd, Supervisor.powerOn]) (by simp [hwd, Supervisor.powerOn])

/-- WD_RETRY stays in its range over a reset: it is kept or takes its default (R41). -/
theorem Settings.afterReset_wdRetry {cfg : Settings} (h : cfg.wdRetry ≤ 7) (l : Locks) : (cfg.afterReset l).wdRetry ≤ 7 := by
  have hretry : (cfg.afterReset l)[0x2A] = if l.supervisor then cfg[0x2A] else settingDefault 0x2A := by
    simp [Settings.afterReset, lockClass]
  unfold Settings.wdRetry
  rw [hretry]
  split
  · exact h
  · decide

/-- A main fail suspends a supervisor that runs (R169, R186). -/
theorem State.WdWf.enterBackup {s : State} (h : s.WdWf) : s.enterBackup.WdWf := by
  have hop : s.enterBackup.control.op = .backup := by simp [State.enterBackup_eq, State.poweredDown]
  have hwd : s.enterBackup.wd = s.poweredDown.suspend.wd := by simp [State.enterBackup_eq]
  have hdown : s.poweredDown.wd = s.wd := rfl
  rw [State.suspend_wd, hdown] at hwd
  obtain ⟨hrun, hresets, hlimit, -, htimer⟩ := h
  unfold State.WdWf
  rw [hwd, hop]
  split
  next => exact ⟨hrun, hresets, hlimit, fun _ => rfl, htimer⟩
  next hruns => exact ⟨hrun, hresets, fun _ => hlimit (by tauto), fun _ => rfl, fun _ => rfl⟩

/-- A return re-arms a SUSPENDED supervisor (R169, R187). -/
theorem State.WdWf.returnEvent {s : State} (h : s.WdWf) : s.returnEvent.WdWf := by
  have hwd := s.returnEvent_wd
  split at hwd
  next hsuspended =>
    obtain ⟨hrun, hresets⟩ := h.counts (by rw [hsuspended]; nofun)
    exact State.wdWf_of_timed (by simp [hwd]) (by simpa [hwd] using hrun) (by simpa [hwd] using hresets)
  next hruns =>
    obtain ⟨hrun, hresets, hlimit, -, htimer⟩ := h
    unfold State.WdWf
    rw [hwd]
    exact ⟨hrun, hresets, hlimit, fun hsuspended => absurd hsuspended hruns, htimer⟩

/-- The return from BACKUP, with the release that may follow it (R187). -/
theorem State.WdWf.returnFromBackup {s : State} (h : s.WdWf) : s.returnFromBackup.WdWf := by
  unfold State.returnFromBackup
  exact .ite (State.release_wdWf _ _) h.returnEvent

/-- At the power-on values the supervisor is DORMANT (R173). -/
theorem State.wdWf_of_powerOn {s : State} (h : s.wd = .powerOn) : s.WdWf :=
  State.wdWf_of_untimed (by simp [h, Supervisor.powerOn]) (by simp [h, Supervisor.powerOn])
    (by simp [h, Supervisor.powerOn]) (by simp [h, Supervisor.powerOn])

/-- A power-on reset leaves the supervisor at its power-on values (R188). -/
theorem State.powerOnReset_wdWf (s : State) : s.powerOnReset.WdWf :=
  State.wdWf_of_powerOn (by simp [State.powerOnReset, State.powerOnValues])

/-- A SUSPENDED supervisor stands in BACKUP, so a change of any other operating state meets none (R169). -/
theorem State.WdWf.setOp {s t : State} (h : s.WdWf) (hop : s.control.op ≠ .backup) (hwd : t.wd = s.wd) : t.WdWf := by
  obtain ⟨hrun, hresets, hlimit, hsuspended, htimer⟩ := h
  unfold State.WdWf
  rw [hwd]
  exact ⟨hrun, hresets, hlimit, fun hstate => absurd (hsuspended hstate) hop, htimer⟩

/-- Entry to HELD from ACTIVE (R185). -/
theorem State.WdWf.enterHeld {s : State} (h : s.WdWf) (hop : s.control.op = .active) : s.enterHeld.WdWf :=
  h.setOp (by rw [hop]; nofun) (by simp)

/-- What the part does on the recognised level of nRST (R183). -/
theorem State.WdWf.actOnNrst {s : State} (h : s.WdWf) : s.actOnNrst.WdWf := by
  unfold State.actOnNrst
  split
  next hop _ => exact h.enterHeld hop
  next => exact s.release_wdWf .pin
  next => exact h

/-- A reading of nRST (R183). -/
theorem State.WdWf.nrstReading {s : State} (h : s.WdWf) {high : Bool} : (s.nrstReading high).WdWf := by
  unfold State.nrstReading
  split
  · exact h
  · refine State.WdWf.actOnNrst ?_
    exact h.of_frame rfl

/-- A reading of nRST keeps WD_RETRY in its range (R41, R183). -/
theorem State.nrstReading_wdRetry {s : State} (hretry : s.settings.wdRetry ≤ 7) (high : Bool) :
    (s.nrstReading high).settings.wdRetry ≤ 7 := by
  unfold State.nrstReading State.actOnNrst
  split
  · exact hretry
  · dsimp only
    split
    · exact hretry
    · rw [State.release_settings]
      exact Settings.afterReset_wdRetry hretry _
    · exact hretry

/-- The reading of VMAIN that follows a boundary (R184). -/
theorem State.WdWf.qualify {s : State} (h : s.WdWf) {vmainGood : Bool} : (s.qualify vmainGood).WdWf := by
  unfold State.qualify
  split_ifs
  · exact h.returnFromBackup
  · exact h.of_frame rfl
  · exact h.of_frame rfl
  · exact h

/-- A boundary with the restore qualification that follows it (R50, R184). -/
theorem State.WdWf.tickBoundary {s : State} (h : s.WdWf) (hretry : s.settings.wdRetry ≤ 7) {pins : BitVec 8}
    {vmainGood : Bool} : (s.tickBoundary pins vmainGood).WdWf := by
  unfold State.tickBoundary
  exact .ite (h.boundary hretry).qualify h

/-- The recognition of nRST high (R183, R189). -/
theorem State.WdWf.releaseEvent {s : State} (h : s.WdWf) : s.releaseEvent.WdWf := by
  unfold State.releaseEvent
  exact .ite (State.release_wdWf _ _) (.ite (State.release_wdWf _ _) h)

/-- A main fail (R184, R186, R191). -/
theorem State.WdWf.backupEvent {s : State} (h : s.WdWf) : s.backupEvent.WdWf := by
  unfold State.backupEvent
  split
  iterate 2 exact h.enterBackup
  · exact h.of_frame rfl
  all_goals exact h

/-- A supply rises into the power-on hold (R188). -/
theorem State.WdWf.powerOnHold {s : State} (h : s.WdWf) {high : Bool} : (s.powerOnHold high).WdWf := by
  unfold State.powerOnHold
  split
  next hop => exact h.setOp (by rw [hop]; nofun) rfl
  next => exact h

/-! ## The link -/

/-- A valid frame takes the silence count, which the invariant does not read (R12, R157). -/
theorem State.WdWf.judgeFrame {s : State} (h : s.WdWf) : s.judgeFrame.WdWf := by
  unfold State.judgeFrame
  dsimp only
  split <;> split <;> exact h

/-- The fall of nCS (R3). -/
theorem State.ncsFall_wdView (s : State) : s.ncsFall.wdView = s.wdView := by
  unfold State.ncsFall
  split
  · split <;> rfl
  all_goals rfl

/-- The rise of nCS (R9, R12). -/
theorem State.WdWf.ncsRise {s : State} (h : s.WdWf) {bytes : List Byte} : (s.ncsRise bytes).WdWf := by
  unfold State.ncsRise
  split
  · exact h
  · exact h.of_frame rfl
  · dsimp only
    split
    · exact h.of_frame rfl
    · refine State.WdWf.judgeFrame ?_
      exact h.of_frame rfl

/-! ## Performed requests (R27) -/

/-- A response touches nothing that the invariant reads (R17, R27). -/
theorem Reply.finish_wdView (r : Reply) (tag : Tag) : (r.finish tag).wdView = r.state.wdView := by
  cases r <;> rfl

/-- A refusal touches nothing, and a request is performed only once its checks have passed (R28, R30). -/
theorem Checks.guard_wdWf (c : Checks) {s : State} (h : s.WdWf) {performed : Reply}
    (hp : c.state = false → performed.state.WdWf) : (c.guard s performed).state.WdWf := by
  unfold Checks.guard
  split
  next => exact h
  next hresult => exact hp (Checks.passed_of_result hresult).1

/-- WD_START leaves DORMANT alone (R158). -/
theorem reqWdStart_wdWf (p : List Byte) {s : State} (h : s.WdWf) : (reqWdStart p s).state.WdWf := by
  refine Checks.guard_wdWf _ h fun hstate => ?_
  have hdormant : s.wd.state = .dormant := by simpa using hstate
  obtain ⟨-, hresets⟩ := h.counts (by rw [hdormant]; nofun)
  exact State.wdWf_of_untimed (.inr rfl) (Nat.zero_le _) hresets rfl

/-- WD_STOP is refused in HOLDING (R159). -/
theorem reqWdStop_wdWf (p : List Byte) {s : State} (h : s.WdWf) : (reqWdStop p s).state.WdWf := by
  refine Checks.guard_wdWf _ h fun hstate => ?_
  obtain ⟨hrun, hresets⟩ := h.counts (by intro hholding; simp [hholding] at hstate)
  exact State.wdWf_of_untimed (.inl rfl) hrun hresets rfl

/-- A feed (R160, R161). -/
theorem reqWdFeed_wdWf (p : List Byte) {s : State} (h : s.WdWf) (hretry : s.settings.wdRetry ≤ 7) :
    (reqWdFeed p s).state.WdWf := by
  unfold reqWdFeed
  dsimp only
  split
  next hstate =>
    have hne : s.wd.state ≠ .holding := by rw [hstate]; nofun
    split_ifs
    · exact h.enterWarned hne
    · exact h.enterWarned hne
    · exact h.goodFeed hstate
  iterate 2
    next hstate =>
      have hne : s.wd.state ≠ .holding := by rw [hstate]; nofun
      split_ifs
      · exact h.feedBack hne
      · exact h.enterResetting hretry hne
  all_goals exact h

/-- Every request keeps the supervisor's invariant (R27). -/
theorem requestBody_wdWf (k : Kind) (selector p : List Byte) {s : State} (h : s.WdWf) (hretry : s.settings.wdRetry ≤ 7) :
    (requestBody k selector p s).state.WdWf := by
  cases k with
  | wdStart => exact reqWdStart_wdWf p h
  | wdStop => exact reqWdStop_wdWf p h
  | wdFeed => exact reqWdFeed_wdWf p h hretry
  | deviceReset =>
    unfold requestBody
    dsimp only
    split
    · exact Checks.guard_wdWf _ h fun _ => h.of_frame rfl
    · exact Checks.guard_wdWf _ h fun _ => State.release_wdWf _ _
  | journalAck =>
    show (reqJournalAck p s).state.WdWf
    unfold reqJournalAck
    split <;> exact h.of_frame rfl
  | counterControl =>
    obtain ⟨f, hf⟩ := requestBody_counterControl selector
    rw [hf]
    refine Checks.guard_wdWf _ h fun _ => ?_
    split <;> exact h.of_frame rfl
  | notifyEnable =>
    unfold requestBody
    dsimp only
    split <;> exact Checks.guard_wdWf _ h fun _ => h.of_frame rfl
  | schedArm | schedPause | schedResume | schedCancel | schedRead | counterLatch | outputPulse | outputClaim =>
    refine Checks.guard_wdWf _ h fun _ => ?_
    split <;> exact h.of_frame rfl
  | settingRead | settingWrite | lock | timeSet | journalPull | outputWrite | notifyAck =>
    exact Checks.guard_wdWf _ h fun _ => h.of_frame rfl
  | poll | deviceInfo | linkStats | timeRead | timeSlew | schedSummary | journalRewind | journalNote | journalStatus | senseRead
  | counterRead | outputRead | wdStatus | notifyRead => exact h.of_frame rfl

/-- Performing the head request (R17, R18). -/
theorem State.WdWf.perform {s : State} (h : s.WdWf) (hretry : s.settings.wdRetry ≤ 7) {accepts : Request → Bool} {k : Kind}
    {selector : List Byte} : (s.perform accepts (requestBody k selector)).WdWf := by
  obtain hwait | ⟨q, rest, -, -, hperform⟩ := s.perform_cases accepts (requestBody k selector)
  · rwa [hwait]
  · have htook : (s.took rest).WdWf := h.of_frame rfl
    rw [hperform]
    exact (requestBody_wdWf k selector q.payload htook hretry).of_frame (Reply.finish_wdView _ _)

/-! ## The part's own running -/

/-- The divider's count, with the boundary at 32 (R47). -/
theorem State.WdWf.countDivider {s : State} (h : s.WdWf) (hretry : s.settings.wdRetry ≤ 7) {i : Nat} :
    (s.countDivider i).WdWf := by
  unfold State.countDivider
  exact .ite (h.tickBoundary hretry) (h.of_frame rfl)

/-- A crystal cycle (R45, R47). -/
theorem State.WdWf.crystalCycle {s : State} (h : s.WdWf) (hretry : s.settings.wdRetry ≤ 7) {i : Nat} :
    (s.crystalCycle i).WdWf := by
  have hmonitor : (s.setTime s.time.crystalCycle).WdWf := h.of_frame rfl
  unfold State.crystalCycle
  exact .ite (.ite (hmonitor.countDivider hretry) hmonitor) h

/-- The count of RC cycles between the readings of nRST, which keeps WD_RETRY in its range as well (R183). -/
theorem State.WdWf.nrstCycle {s : State} (h : s.WdWf) (hretry : s.settings.wdRetry ≤ 7) (i : Nat) :
    (s.nrstCycle i).WdWf ∧ (s.nrstCycle i).settings.wdRetry ≤ 7 := by
  unfold State.nrstCycle
  split
  · exact ⟨h.nrstReading, State.nrstReading_wdRetry hretry _⟩
  · exact ⟨h.of_frame rfl, hretry⟩

/-- An RC cycle of the power-on hold (R188). -/
theorem State.WdWf.holdCycle {s : State} (h : s.WdWf) {i : Nat} : (s.holdCycle i).WdWf := by
  unfold State.holdCycle
  split_ifs
  · exact s.powerOnReset_wdWf
  all_goals exact h.of_frame rfl

/-- An RC cycle (R45, R47, R183). -/
theorem State.WdWf.rcCycle {s : State} (h : s.WdWf) (hretry : s.settings.wdRetry ≤ 7) {i : Nat} : (s.rcCycle i).WdWf := by
  obtain ⟨hcycle, hretry'⟩ := h.nrstCycle hretry i
  unfold State.rcCycle
  dsimp only
  split_ifs
  · exact hcycle.of_frame rfl
  · exact (hcycle.countDivider hretry').of_frame rfl
  · exact hcycle.holdCycle

/-- The part's own work: the head request or one oscillator cycle (R26, R44; log entry 2). -/
theorem State.WdWf.ownWork {s : State} (h : s.WdWf) (hretry : s.settings.wdRetry ≤ 7) : s.ownWork.WdWf := by
  have hfree : (s.setFreeIndex (s.freeIndex + 1)).WdWf := h.of_frame rfl
  unfold State.ownWork State.performHead State.oscillatorCycle
  dsimp only
  split_ifs
  · split
    · exact h
    · exact h.perform hretry
  · exact h
  · exact hfree.crystalCycle hretry
  · exact hfree.rcCycle hretry

/-! ## Every command -/

/-- Every command keeps the supervisor's invariant while WD_RETRY is in its range. -/
theorem exec_wdWf {i : Instr} {s t : State} (h : s.WdWf) (hretry : s.settings.wdRetry ≤ 7) (hexec : exec i s = .next t) :
    t.WdWf := by
  by_cases hi : isRequest i = true
  · obtain ⟨accepts, k, selector, hperform⟩ := exec_request hi
    rw [hperform] at hexec
    cases hexec
    exact h.perform hretry
  cases i with
  | ncsFall => cases hexec; exact h.of_frame s.ncsFall_wdView
  | ncsRise bits => cases hexec; exact h.ncsRise
  | tickBoundary pins good => cases hexec; exact h.tickBoundary hretry
  | crystalGood | crystalFailed | gapLongerThan1Ms | sourceChange | epochEnd | rateWindowClose =>
    cases hexec
    exact .ite (h.of_frame (by simp [State.wdView])) h
  | confirmedChange n | expiry n | revert n | fire n =>
    simp only [exec, execConfirmedChange, execExpiry, execRevert, execFire] at hexec
    split at hexec
    · cases hexec
      exact .ite (h.of_frame (by simp [State.wdView])) h
    · cases hexec
  | timeout | silence | grace | pulseEnd | boot => cases hexec; exact h.beatOf hretry
  | enterHeld =>
    cases hexec
    unfold State.heldEvent
    split
    next hop => exact h.setOp (by rw [hop]; nofun) (by simp [State.recognise])
    next => exact h
  | release => cases hexec; exact h.releaseEvent
  | enterBackup => cases hexec; exact h.backupEvent
  | returnFromBackup =>
    cases hexec
    unfold State.returnFromBackupEvent
    exact .ite h.returnFromBackup h
  | powerLoss => cases hexec; exact State.wdWf_of_powerOn rfl
  | powerOnHold high => cases hexec; exact h.powerOnHold
  | powerOnReset =>
    cases hexec
    unfold State.powerOnResetEvent
    exact .ite s.powerOnReset_wdWf h
  | nrstReading high => cases hexec; exact h.nrstReading
  | _ => exact absurd rfl hi

/-- WD_RETRY in its range (R35). -/
theorem Settings.Wf.wdRetry {cfg : Settings} (h : cfg.Wf) : cfg.wdRetry ≤ 7 := by
  obtain ⟨hrange, -, -⟩ := h
  have hretry : (decide (1 ≤ cfg[0x2A].toNat) && decide (cfg[0x2A].toNat ≤ 7)) = true := hrange 0x2A
  rw [Bool.and_eq_true, decide_eq_true_eq, decide_eq_true_eq] at hretry
  exact hretry.2

/-- Settles O53: every command and the part's own work keep the invariant. -/
theorem supervisorInvariantKept : Obligations.SupervisorInvariantKept := by
  intro s t hsettings h hstep
  have hretry := hsettings.wdRetry
  unfold step at hstep
  split at hstep
  · cases hstep
    exact State.WdWf.ownWork h hretry
  next i rest _ =>
    have hrest : (s.setPending rest).WdWf := State.WdWf.of_frame h rfl
    exact exec_wdWf hrest hretry hstep

end Sys2Proof.Machine
end

section
namespace Sys2Proof.Machine

-- One theorem after another, as in the tests: a thread for each proof takes more memory than the check gives.
set_option Elab.async false

/-! # WD_START, WD_STOP, WD_STATUS and WD_FEED (R158 to R161, R171) -/

/-- WD_START (R30, R158). -/
theorem reqWdStart_eq (p : List Byte) (s : State) :
    reqWdStart p s = if s.wd.state ≠ .dormant then .answer s .state []
      else if s.settings.wdTimeout ≤ s.settings.wdWindow then .answer s .range [] else .answer s.wdStart .ok [] := by
  unfold reqWdStart
  split_ifs with hstate hwindow
  · exact Checks.guard_fail (by rw [Checks.result_state_range, if_pos (bne_iff_ne.2 hstate)]) _ _
  · exact Checks.guard_fail (by simp [Checks.result_state_range, hstate, hwindow]) _ _
  · exact Checks.guard_pass (by simp [Checks.result_state_range, hstate, hwindow]) _ _

/-- WD_STOP (R30, R159). -/
theorem reqWdStop_eq (p : List Byte) (s : State) :
    reqWdStop p s = if s.control.locks.supervisor = true then .answer s .locked []
      else if s.wd.state = .watching ∨ s.wd.state = .warned ∨ s.wd.state = .rearm then .answer s.wdStop .ok []
      else .answer s .state [] := by
  unfold reqWdStop
  split_ifs with hlocked hruns
  · exact Checks.guard_fail (by simp [Checks.result, hlocked]) _ _
  · refine Checks.guard_pass ?_ _ _
    rcases hruns with hstate | hstate | hstate <;> simp [Checks.result, hlocked, hstate]
  · refine Checks.guard_fail ?_ _ _
    cases hstate : s.wd.state with
    | watching | warned | rearm => simp [hstate] at hruns
    | dormant | resetting | holding | suspended => simp [Checks.result, hlocked]

/-- WD_STATUS answers the payload of the state it meets (R171). -/
theorem exec_wdStatus {s : State} {tag : Tag} {p : List Byte} {rest : List Request} (h : s.Ready ⟨.wdStatus, tag, p⟩ rest) :
    exec .wdStatus s = .next ((s.took rest).answered tag .ok s.wdStatusPayload) :=
  congrArg Host.Outcome.next (State.perform_answered h (ofKind .wdStatus) rfl (body := reqWdStatus) rfl)

/-- Settles O50: WD_START and WD_STOP by their equations, and WD_STATUS answers its payload. -/
theorem watchdogStartStopStatus : Obligations.WatchdogStartStopStatus := by
  intro s tag p rest
  refine ⟨fun hready => ?start, fun hready => ?stop, fun hready => ?status⟩
  case start =>
    have hreq := reqWdStart_eq p (s.took rest)
    refine ⟨fun hstate => ?_, fun hstate hwindow => ?_, fun hstate hwindow => ?_⟩
    · exact congrArg _ (State.perform_answered hready _ rfl (hreq.trans (if_pos hstate)))
    · exact congrArg _ (State.perform_answered hready _ rfl
        (hreq.trans ((if_neg (not_not.2 hstate)).trans (if_pos hwindow))))
    · have hstart := State.perform_answered hready (ofKind .wdStart) rfl
        (hreq.trans ((if_neg (not_not.2 hstate)).trans (if_neg (Nat.not_le.2 hwindow))))
      rw [← hstate]
      exact congrArg _ hstart
  case stop =>
    have hreq := reqWdStop_eq p (s.took rest)
    refine ⟨fun hlocked => ?_, fun hfree hstate => ?_, fun hfree hstate => ?_⟩
    · exact congrArg _ (State.perform_answered hready _ rfl (hreq.trans (if_pos hlocked)))
    all_goals
      have hlocked : ¬(s.took rest).control.locks.supervisor = true := Bool.eq_false_iff.1 hfree
    · have hruns : ¬(s.wd.state = .watching ∨ s.wd.state = .warned ∨ s.wd.state = .rearm) := by
        rcases hstate with hstate | hstate | hstate <;> simp [hstate]
      exact congrArg _ (State.perform_answered hready _ rfl (hreq.trans ((if_neg hlocked).trans (if_neg hruns))))
    · exact congrArg _ (State.perform_answered hready _ rfl (hreq.trans ((if_neg hlocked).trans (if_pos hstate))))
  case status =>
    rw [exec_wdStatus hready]
    unfold State.wdStatusPayload State.stageRemaining
    cases s.wd.state <;> rfl

/-! ## WD_FEED -/

/-- A feed in WATCHING: the token is judged before the window (R160). -/
theorem reqWdFeed_watching {s : State} (hstate : s.wd.state = .watching) (token : Byte) :
    reqWdFeed [token] s =
      if token = s.wd.token then
        if s.wd.elapsed.toNat < s.settings.wdWindow then .answer (s.Warned .early) .feedFault [2, 0x05]
        else .answer (s.setWd s.wd.goodFeed) .ok [s.wd.token + 1]
      else .answer (s.Warned .token) .feedFault [2, 0x06] := by
  have hfault (reason : WdReason) :
      feedFault (s.enterWarned reason) reason = .answer (s.Warned reason) .feedFault [2, reason.code] := by
    rw [← State.enterWarned_eq]
    rfl
  have hbyte : byteAt [token] 0 = token := rfl
  simp only [reqWdFeed, hstate, hbyte, hfault]
  by_cases hright : token = s.wd.token <;> simp [hright, WdReason.code]

/-- A feed in WARNED and REARM: a wrong token escalates (R161). -/
theorem reqWdFeed_attention {s : State} (hstate : s.wd.state = .warned ∨ s.wd.state = .rearm) (token : Byte) :
    reqWdFeed [token] s =
      if token = s.wd.token then .answer s.feedBack .ok [s.wd.token + 1]
      else .answer (s.enterResetting .token) .feedFault [if s.settings.wdRetry < s.wd.hostResets + 1 then 5 else 3, 0x06] := by
  have hfault : feedFault (s.enterResetting .token) .token = .answer (s.enterResetting .token) .feedFault
      [if s.settings.wdRetry < s.wd.hostResets + 1 then 5 else 3, 0x06] := by
    unfold feedFault
    rw [State.enterResetting_wd]
    split <;> rfl
  have hbyte : byteAt [token] 0 = token := rfl
  rcases hstate with hstate | hstate <;> simp [reqWdFeed, hstate, hbyte, hfault]

/-- A feed is refused in DORMANT, RESETTING and HOLDING (R160). -/
theorem reqWdFeed_refused {s : State} (hstate : s.wd.state = .dormant ∨ s.wd.state = .resetting ∨ s.wd.state = .holding)
    (p : List Byte) : reqWdFeed p s = .answer s .state [] := by
  rcases hstate with hstate | hstate | hstate <;> simp [reqWdFeed, hstate]

/-- Settles O51: each group of states by its equation of the feed. -/
theorem watchdogFeed : Obligations.WatchdogFeed := by
  intro s tag token rest hready
  refine ⟨fun hstate => ?refused, fun hstate => ?watching, fun hstate => ?attention⟩
  case refused => exact congrArg _ (State.perform_answered hready _ rfl (reqWdFeed_refused (s := s.took rest) hstate [token]))
  case watching =>
    have hreq := reqWdFeed_watching (s := s.took rest) hstate token
    refine ⟨fun hright hwindow => ⟨s.wd.goodFeed, s.wd.goodFeed_eq, ?_⟩, fun hwrong => ?_, fun hright hearly => ?_⟩
    · exact congrArg _ (State.perform_answered hready _ rfl
        (hreq.trans ((if_pos hright).trans (if_neg (Nat.not_lt.2 hwindow)))))
    · exact congrArg _ (State.perform_answered hready _ rfl (hreq.trans (if_neg hwrong)))
    · exact congrArg _ (State.perform_answered hready _ rfl (hreq.trans ((if_pos hright).trans (if_pos hearly))))
  case attention =>
    have hreq := reqWdFeed_attention (s := s.took rest) hstate token
    refine ⟨fun hright => ?_, fun hwrong => ⟨_, (s.took rest).enterResetting_escalated .token, ?_⟩⟩
    · exact congrArg _ (State.perform_answered hready _ rfl (hreq.trans (if_pos hright)))
    · exact congrArg _ (State.perform_answered hready _ rfl (hreq.trans (if_neg hwrong)))

end Sys2Proof.Machine
end

section
namespace Sys2Proof.Machine

-- One theorem after another, as in the tests: a thread for each proof takes more memory than the check gives.
set_option Elab.async false

/-! # The timed transitions and the pin HRST (R157, R162 to R168) -/

/-! ## The beat that makes a transition (log entry 6) -/

/-- A timed transition's command makes the beat whose counted timers call for it (R157). -/
theorem State.beatOf_due {s : State} {t : WdTimed} {w : Supervisor} (hop : s.control.op = .active) (hcount : s.wd.count = w)
    (hdue : (s.setWd w).timedDue = some t) : s.beatOf t = (s.setWd w).timed t := by
  have hmakes : s.beatMakes t = true := by simp [State.beatMakes, hop, hcount, hdue]
  rw [State.beatOf, if_pos hmakes]
  simp only [State.beat, hcount, hdue]

/-- The supervisor that a beat in WATCHING leaves before any transition (R157). -/
def Supervisor.watched (w : Supervisor) : Supervisor :=
  { w with elapsed := w.elapsed + 1, silence := satAdd w.silence 1 }

/-- The count in WATCHING (R157). -/
theorem Supervisor.count_watching {w : Supervisor} (hstate : w.state = .watching) : w.count = w.watched := by
  simp [Supervisor.count, Supervisor.watched, hstate]

/-- The last count of a stage timer (R157). -/
theorem Supervisor.count_last {w : Supervisor} (hstate : w.state = .warned ∨ w.state = .resetting ∨ w.state = .rearm)
    (htimer : w.timer = 1) : w.count = { w with timer := 0 } := by
  rcases hstate with hstate | hstate | hstate <;> simp [Supervisor.count, hstate, htimer]

/-- What the timers call for in WATCHING: the timeout before the silence (R162). -/
theorem State.timedDue_watching {s : State} (hstate : s.wd.state = .watching) :
    s.timedDue = if s.wd.elapsed.toNat = s.settings.wdTimeout then some .timeout
      else if s.settings.wdSilence ≠ 0 ∧ s.settings.wdSilence ≤ s.wd.silence.toNat then some .silence else none := by
  simp only [State.timedDue, hstate]

/-- The elapsed count below its timeout does not wrap (R38, R157). -/
theorem toNat_elapsed_succ {elapsed : BitVec 12} {timeout : Nat} (hlast : elapsed.toNat + 1 ≤ timeout)
    (htimeout : timeout ≤ 4095) : (elapsed + 1).toNat = elapsed.toNat + 1 := by
  rw [BitVec.toNat_add_of_lt]
  · rfl
  · show elapsed.toNat + 1 < 4096
    omega

/-- The silence count reaches a setting that it is one below, saturated or not (R162). -/
theorem le_toNat_silence_succ {silence setting : Byte} (h : setting.toNat ≤ silence.toNat + 1) :
    setting.toNat ≤ (satAdd silence 1).toNat := by
  have hsetting := setting.isLt
  have hsat : (satAdd silence 1).toNat = min 255 (silence.toNat + 1) := by
    unfold satAdd
    rw [BitVec.toNat_ofNat]
    omega
  omega

/-- TIMEOUT at the beat that brings the elapsed count to the timeout (R162). -/
theorem exec_timeout {s : State} (hop : s.control.op = .active) (hstate : s.wd.state = .watching)
    (hlast : s.wd.elapsed.toNat + 1 = s.settings.wdTimeout) (htimeout : s.settings.wdTimeout ≤ 4095) :
    exec .timeout s = .next ((s.setWd s.wd.watched).Warned .timeout) := by
  have helapsed : (s.wd.elapsed + 1).toNat = s.settings.wdTimeout :=
    (toNat_elapsed_succ hlast.le htimeout).trans hlast
  have hdue : (s.setWd s.wd.watched).timedDue = some .timeout :=
    (State.timedDue_watching (s := s.setWd s.wd.watched) hstate).trans (if_pos helapsed)
  show Host.Outcome.next (s.beatOf .timeout) = _
  rw [State.beatOf_due hop (Supervisor.count_watching hstate) hdue, ← State.enterWarned_eq]
  rfl

/-- SILENCE at the beat that brings the silence count to WD_SILENCE before the timeout (R162). -/
theorem exec_silence {s : State} (hop : s.control.op = .active) (hstate : s.wd.state = .watching)
    (hbefore : s.wd.elapsed.toNat + 1 < s.settings.wdTimeout) (htimeout : s.settings.wdTimeout ≤ 4095)
    (hon : s.settings.wdSilence ≠ 0) (hsilence : s.settings.wdSilence ≤ s.wd.silence.toNat + 1) :
    exec .silence s = .next ((s.setWd s.wd.watched).Warned .silence) := by
  have helapsed : (s.wd.elapsed + 1).toNat ≠ s.settings.wdTimeout := by
    rw [toNat_elapsed_succ hbefore.le htimeout]
    omega
  have hreached : s.settings.wdSilence ≤ (satAdd s.wd.silence 1).toNat := le_toNat_silence_succ hsilence
  have hdue : (s.setWd s.wd.watched).timedDue = some .silence :=
    (State.timedDue_watching (s := s.setWd s.wd.watched) hstate).trans ((if_neg helapsed).trans (if_pos ⟨hon, hreached⟩))
  show Host.Outcome.next (s.beatOf .silence) = _
  rw [State.beatOf_due hop (Supervisor.count_watching hstate) hdue, ← State.enterWarned_eq]
  rfl

/-- The last count of the timer before an escalation is not read by it (R164, R165). -/
theorem State.Escalated.of_counted {s t : State} {reason : WdReason}
    (h : (s.setWd { s.wd with timer := 0 }).Escalated reason t) : s.Escalated reason t := h

/-- GRACE at the last count in WARNED (R164). -/
theorem exec_grace {s : State} (hop : s.control.op = .active) (hstate : s.wd.state = .warned) (htimer : s.wd.timer = 1) :
    exec .grace s = .next ((s.setWd { s.wd with timer := 0 }).enterResetting .grace) := by
  have hdue : (s.setWd { s.wd with timer := 0 }).timedDue = some .grace := by simp [State.timedDue, hstate]
  exact congrArg Host.Outcome.next (State.beatOf_due hop (Supervisor.count_last (.inl hstate) htimer) hdue)

/-- BOOT at the last count in REARM (R165). -/
theorem exec_boot {s : State} (hop : s.control.op = .active) (hstate : s.wd.state = .rearm) (htimer : s.wd.timer = 1) :
    exec .boot s = .next ((s.setWd { s.wd with timer := 0 }).enterResetting .boot) := by
  have hdue : (s.setWd { s.wd with timer := 0 }).timedDue = some .boot := by simp [State.timedDue, hstate]
  exact congrArg Host.Outcome.next (State.beatOf_due hop (Supervisor.count_last (.inr (.inr hstate)) htimer) hdue)

/-- PULSE_END at the last count in RESETTING (R165). -/
theorem exec_pulseEnd {s : State} (hop : s.control.op = .active) (hstate : s.wd.state = .resetting)
    (htimer : s.wd.timer = 1) : exec .pulseEnd s = .next ((s.setWd { s.wd with timer := 0 }).enterRearm .pulseEnd) := by
  have hdue : (s.setWd { s.wd with timer := 0 }).timedDue = some .pulseEnd := by simp [State.timedDue, hstate]
  exact congrArg Host.Outcome.next (State.beatOf_due hop (Supervisor.count_last (.inr (.inl hstate)) htimer) hdue)

/-! ## HRST (R168, R188) -/

/-- With a supply HRST is driven, high in the four conditions and low otherwise (R168, R188). -/
theorem State.hrst_driven {s : State} (h : s.control.op ≠ .unpowered) :
    s.hrst = if (s.wd.state = .resetting ∧ s.control.op = .active) ∨ s.wd.state = .holding ∨ s.control.op = .backup ∨
      s.control.op = .powerOnHold then .high else .low := if_neg h

/-- Without a supply nothing drives HRST (log entry 28). -/
theorem State.hrst_undriven {s : State} (h : s.control.op = .unpowered) : s.hrst = .highZ := if_pos h

/-- Settles O52: HRST by its two cases, and each transition by its command's lemma above. -/
theorem timedTransitions : Obligations.TimedTransitions := by
  refine ⟨fun s => ⟨fun hsupply => ?driven, State.hrst_undriven⟩, fun s hop =>
    ⟨exec_timeout hop, exec_silence hop, fun hstate htimer => ?grace, fun hstate htimer => ?boot,
      fun hstate htimer => ?pulseEnd⟩⟩
  case driven =>
    rw [State.hrst_driven hsupply]
    split
    next hhigh => exact ⟨iff_of_true rfl hhigh, .inl rfl⟩
    next hlow => exact ⟨iff_of_false nofun hlow, .inr rfl⟩
  case grace => exact ⟨_, .of_counted (State.enterResetting_escalated _ _), exec_grace hop hstate htimer⟩
  case boot => exact ⟨_, .of_counted (State.enterResetting_escalated _ _), exec_boot hop hstate htimer⟩
  case pulseEnd =>
    refine ⟨s.rearming, s.rearming.reforce.outputs, rfl, s.rearming.reforce_spec, ?_⟩
    rw [exec_pulseEnd hop hstate htimer, State.enterRearm_eq, ← hstate]
    rfl

end Sys2Proof.Machine
end

section
namespace Sys2Proof.Machine

-- One theorem after another, as in the tests: a thread for each proof takes more memory than the check gives.
set_option Elab.async false

/-! # NOTIFY_ENABLE, NOTIFY_ACK and NOTIFY_READ (R177 to R179) -/

/-- Where the range is the only check, it alone decides (R30). -/
theorem Checks.guard_range (range : Bool) (s : State) (performed : Reply) :
    ({ range := range } : Checks).guard s performed = if range then .answer s .range [] else performed := by
  cases range <;> rfl

/-! ## NOTIFY_ENABLE -/

/-- A 16-bit mask names a cause that does not exist, in its upper four bits, exactly from 4096 on (R177). -/
theorem extract_upper_ne_zero (mask : BitVec 16) : (mask.extractLsb' 12 4 != 0) = decide (4096 ≤ mask.toNat) := by
  rw [Bool.eq_iff_iff, bne_iff_ne, decide_eq_true_iff, ne_eq, BitVec.toNat_eq, BitVec.extractLsb'_toNat,
    Nat.shiftRight_eq_div_pow, BitVec.ofNat_eq_ofNat, BitVec.toNat_zero]
  omega

/-- NOTIFY_ENABLE of a mask and an operation: both are judged by their range (R177). -/
theorem notifyEnable_eq (f : BitVec 12 → BitVec 12 → BitVec 12) (mask : BitVec 16) (op : Byte) (s : State) :
    notifyEnable f (be16 mask ++ [op]) s = if 4096 ≤ mask.toNat ∨ 1 < op.toNat then .answer s .range [] else
      .answer (s.setNotify { s.notify with enabled := f s.notify.enabled (mask.setWidth 12) }) .ok
        (maskBytes (f s.notify.enabled (mask.setWidth 12))) := by
  have hmask : u16At (be16 mask ++ [op]) 0 = mask := extract_append_extract mask
  have hop : byteAt (be16 mask ++ [op]) 2 = op := rfl
  simp only [notifyEnable, hmask, hop, Checks.guard_range, extract_upper_ne_zero, Bool.or_eq_true, decide_eq_true_iff]

/-- SET enables a cause that the mask names (R177). -/
theorem enableSet_getLsbD (enabled : BitVec 12) (mask : BitVec 16) (n : Fin 12) :
    (enableSet enabled (mask.setWidth 12)).getLsbD n.val = (enabled.getLsbD n.val || mask.getLsbD n.val) := by
  simp [enableSet]

/-- CLEAR disables a cause that the mask names (R177). -/
theorem enableClear_getLsbD (enabled : BitVec 12) (mask : BitVec 16) (n : Fin 12) :
    (enableClear enabled (mask.setWidth 12)).getLsbD n.val = (enabled.getLsbD n.val && !mask.getLsbD n.val) := by
  simp [enableClear]

/-- The row of an operation performs a NOTIFY_ENABLE that names it, or names no operation (R177; log entry 15). -/
theorem State.perform_notifyEnable {s : State} {tag : Tag} {rest : List Request} {mask : BitVec 16} {op : Byte}
    (h : s.Ready ⟨.notifyEnable, tag, be16 mask ++ [op]⟩ rest) {row : Nat} (hrow : op.toNat = row ∨ 1 < op.toNat)
    (f : BitVec 12 → BitVec 12 → BitVec 12) :
    s.perform (ofSelector .notifyEnable 2 row 2) (notifyEnable f) =
      if 4096 ≤ mask.toNat ∨ 1 < op.toNat then (s.took rest).answered tag .range [] else
        ((s.took rest).setNotify { s.notify with enabled := f s.notify.enabled (mask.setWidth 12) }).answered tag .ok
          (maskBytes (f s.notify.enabled (mask.setWidth 12))) := by
  have haccepts : ofSelector .notifyEnable 2 row 2 ⟨.notifyEnable, tag, be16 mask ++ [op]⟩ = true := by
    have hop : byteAt (be16 mask ++ [op]) 2 = op := rfl
    simpa [ofSelector, hop, Nat.succ_le_iff] using hrow
  have hreq := notifyEnable_eq f mask op (s.took rest)
  split_ifs with hbad
  · exact State.perform_refused h _ haccepts (hreq.trans (if_pos hbad))
  · exact State.perform_answered h _ haccepts (hreq.trans (if_neg hbad))

/-! ## NOTIFY_ACK -/

/-- The pairs of a payload that is made of pairs (R179). -/
theorem ackPairs_flatMap (pairs : List (Byte × Byte)) : ackPairs (pairs.flatMap fun x => [x.1, x.2]) = pairs := by
  induction pairs with
  | nil => rfl
  | cons x rest ih => exact congrArg (x :: ·) ih

/-- The event causes are all but JOURNAL_LEVEL and CLOCK_SOURCE (R174). -/
theorem isLevelCause_eq_false_iff (n : Fin 12) : isLevelCause n.val = false ↔ n ≠ 0 ∧ n ≠ 7 := by
  revert n
  decide

/-- A byte is the number of a cause exactly when the cause has its number. -/
theorem byteOf_val_eq_iff (n : Fin 12) (b : Byte) : byteOf n.val = b ↔ n.val = b.toNat := by
  rw [← BitVec.toNat_inj, toNat_byteOf_val (by decide)]

/-- A pair that names a cause answers to that cause alone, an event cause with the present count (R179). -/
theorem Notification.acknowledged_iff {q : Notification} {x : Byte × Byte} {c : Fin 12} (hc : finOf 12 x.1.toNat = some c)
    (n : Fin 12) : (n ≠ 0 ∧ n ≠ 7 ∧ (byteOf n.val, q.counts[n]) = x) ↔
      n = c ∧ isLevelCause c.val = false ∧ q.counts[c] = x.2 := by
  rw [Prod.ext_iff, byteOf_val_eq_iff, ← val_of_finOf hc, ← Fin.ext_iff, isLevelCause_eq_false_iff]
  constructor
  · rintro ⟨h0, h7, rfl, hseen⟩
    exact ⟨rfl, ⟨h0, h7⟩, hseen⟩
  · rintro ⟨rfl, ⟨h0, h7⟩, hseen⟩
    exact ⟨h0, h7, rfl, hseen⟩

/-- A pair clears the pending flag of the event cause it names if its count-seen is the present count, and nothing else
(R179). -/
theorem Notification.ackPair_eq (q : Notification) (x : Byte × Byte) :
    ∃ pending : BitVec 12, q.ackPair x = { q with pending := pending } ∧ ∀ n : Fin 12, pending.getLsbD n.val =
      (q.pending.getLsbD n.val && !decide (n ≠ 0 ∧ n ≠ 7 ∧ (byteOf n.val, q.counts[n]) = x)) := by
  unfold Notification.ackPair
  split
  next c hc =>
    simp only [Notification.acknowledged_iff hc]
    split
    next hack => exact ⟨_, rfl, fun n => by simp [hack, Fin.ext_iff, eq_comm]⟩
    next hnot => exact ⟨q.pending, rfl, fun n => by rw [decide_eq_false (hnot ·.2), Bool.not_false, Bool.and_true]⟩
  next hnone =>
    have hother (n : Fin 12) : byteOf n.val ≠ x.1 := by
      rintro h
      rw [← (byteOf_val_eq_iff n x.1).1 h, finOf_val] at hnone
      cases hnone
    exact ⟨q.pending, rfl, fun n => by simp [Prod.ext_iff, hother]⟩

/-- A list of pairs acknowledges every event cause that one of them names with the present count (R179). -/
theorem Notification.foldl_ackPair_eq (pairs : List (Byte × Byte)) (q : Notification) :
    ∃ pending : BitVec 12, pairs.foldl Notification.ackPair q = { q with pending := pending } ∧
      ∀ n : Fin 12, pending.getLsbD n.val =
        (q.pending.getLsbD n.val && !decide (n ≠ 0 ∧ n ≠ 7 ∧ (byteOf n.val, q.counts[n]) ∈ pairs)) := by
  induction pairs generalizing q with
  | nil => exact ⟨q.pending, rfl, by simp⟩
  | cons x rest ih =>
    obtain ⟨first, hfirst, hbit⟩ := q.ackPair_eq x
    obtain ⟨pending, hfold, hbits⟩ := ih { q with pending := first }
    refine ⟨pending, by rw [List.foldl_cons, hfirst, hfold], fun n => ?_⟩
    rw [hbits, hbit, Bool.and_assoc, ← Bool.not_or, ← Bool.decide_or]
    simp only [List.mem_cons, and_or_left]

/-- The bit of a cause among the causes named: set when a pair names it (R179). -/
theorem namedCauses_getLsbD (pairs : List (Byte × Byte)) (n : Fin 12) :
    (namedCauses pairs).getLsbD n.val = decide (∃ x ∈ pairs, x.1.toNat = n.val) := by
  have hfold (m : BitVec 12) :
      (pairs.foldl (fun m x => m ||| BitVec.twoPow 12 x.1.toNat) m).getLsbD n.val =
        (m.getLsbD n.val || decide (∃ x ∈ pairs, x.1.toNat = n.val)) := by
    induction pairs generalizing m with
    | nil => simp
    | cons x rest ih => rw [List.foldl_cons, ih]; simp [Bool.or_assoc, eq_comm]
  exact (hfold 0).trans (by simp)

/-- NOTIFY_ACK refuses a cause above 11 (R179). -/
theorem reqNotifyAck_eq (pairs : List (Byte × Byte)) (s : State) :
    reqNotifyAck (pairs.flatMap fun x => [x.1, x.2]) s =
      if ∃ x ∈ pairs, 11 < x.1.toNat then .answer s .range [] else
        .answer (s.setNotify (pairs.foldl Notification.ackPair s.notify)) .ok
          (maskBytes ((pairs.foldl Notification.ackPair s.notify).pending &&& namedCauses pairs)) := by
  simp only [reqNotifyAck, ackPairs_flatMap, Checks.guard_range, List.any_eq_true, decide_eq_true_iff]

/-! ## The three requests -/

/-- Settles O54: the enables by the equation of NOTIFY_ENABLE's rows, the acknowledgement by its fold over the pairs. -/
theorem notifyRequests : Obligations.NotifyRequests := by
  intro s tag rest
  refine ⟨fun mask hready => ?set, fun mask hready => ?clear, fun mask op hready hop => ?operation,
    fun pairs hready => ?ack, fun p hready => ?read⟩
  case set =>
    have hrow := State.perform_notifyEnable hready (.inl rfl) enableSet
    refine ⟨fun hbad => congrArg _ (hrow.trans (if_pos (.inl hbad))), fun hmask =>
      ⟨_, enableSet_getLsbD s.notify.enabled mask, congrArg _ (hrow.trans (if_neg ?_))⟩⟩
    simp [hmask]
  case clear =>
    have hrow := State.perform_notifyEnable hready (.inl rfl) enableClear
    refine ⟨fun hbad => congrArg _ (hrow.trans (if_pos (.inl hbad))), fun hmask =>
      ⟨_, enableClear_getLsbD s.notify.enabled mask, congrArg _ (hrow.trans (if_neg ?_))⟩⟩
    simp [hmask]
  case operation =>
    exact ⟨congrArg _ ((State.perform_notifyEnable hready (.inr hop) enableSet).trans (if_pos (.inr hop))),
      congrArg _ ((State.perform_notifyEnable hready (.inr hop) enableClear).trans (if_pos (.inr hop)))⟩
  case ack =>
    have hreq := reqNotifyAck_eq pairs (s.took rest)
    refine ⟨fun hbad => congrArg _ (State.perform_refused hready _ rfl (hreq.trans (if_pos hbad))), fun hcauses => ?_⟩
    obtain ⟨pending, hfold, hbits⟩ := Notification.foldl_ackPair_eq pairs s.notify
    refine ⟨pending, pending &&& namedCauses pairs, hbits, fun n => ?_, ?_⟩
    · rw [BitVec.getLsbD_and, namedCauses_getLsbD]
    · have hgood : ¬∃ x ∈ pairs, 11 < x.1.toNat := fun ⟨x, hx, habove⟩ => Nat.not_lt.2 (hcauses x hx) habove
      have hnotify : (s.took rest).notify = s.notify := rfl
      rw [if_neg hgood, hnotify, hfold] at hreq
      exact congrArg _ (State.perform_answered hready (ofKind .notifyAck) rfl hreq)
  case read => exact congrArg _ (State.perform_answered hready (ofKind .notifyRead) rfl (body := reqNotifyRead) rfl)

end Sys2Proof.Machine
end

section
namespace Sys2Proof.Machine

-- One theorem after another, as in the tests: a thread for each proof takes more memory than the check gives.
set_option Elab.async false

/-! # The supplies and the readings of nRST (R183, R184, R188) -/

/-! ## POWER_ON_RESET (R188) -/

/-- The record that ends the power-on hold is the first of the journal, and its append loses none (R100, R115, R188). -/
theorem State.powerOnValues_record (txn : Transaction) (op : OpState) (nrst : NrstReadings) (freeIndex : Nat)
    (pending : List Instr) :
    (State.powerOnValues txn op nrst freeIndex pending).record (.deviceReset .powerOn) =
      { State.powerOnValues txn op nrst freeIndex pending with journal := State.reset.journal } := by
  have happend : Journal.empty.append Settings.default.keepNewest Timebase.powerOn.mark (.deviceReset .powerOn) .none =
      ⟨State.reset.journal, 0, some 0⟩ := by decide +kernel
  unfold State.record State.append State.appendInfo State.powerOnValues
  dsimp only
  rw [happend]
  rfl

/-- The part at the end of the power-on hold, before its lines are forced (R188 steps 1 and 2). -/
def State.holdEnded (s : State) : State :=
  { State.reset with
    link := { State.reset.link with txn := if s.link.txn = .idle then .idle else .discarding }
    control := ⟨if s.control.nrst.recognised then .active else .held, !s.control.nrst.recognised, 0, 0, s.control.nrst,
      ⟨false, false, false⟩⟩
    notify := .clear
    freeIndex := s.freeIndex
    pending := s.pending }

/-- The end of the power-on hold in these words (R188). -/
theorem State.powerOnReset_eq (s : State) : s.powerOnReset = s.holdEnded.reforce.recompute := by
  unfold State.powerOnReset
  dsimp only
  rw [State.powerOnValues_record]
  rfl

/-- With every enable clear and the journal below its level, the recomputation finds CLOCK_SOURCE pending and nINT released
(R65, R176, R181). -/
theorem State.holdEnded_recompute_notify (s : State) : s.holdEnded.reforce.recompute.notify = State.reset.notify := by
  have hpending : (State.reset.setNotify .clear).recompute.notify.pending = 0x080 := by decide +kernel
  show (⟨(State.reset.setNotify .clear).recompute.notify.pending, 0, Vector.replicate 12 0,
    s.holdEnded.control.op == .active && ((State.reset.setNotify .clear).recompute.notify.pending &&& 0) != 0⟩ : Notification) = _
  rw [hpending]
  cases s.holdEnded.control.op <;> rfl

/-- At the end of the hold every line is the host's at level 0, forced exactly if nRST is low (R150, R155, R188). -/
theorem State.holdEnded_reforce_line (s : State) (n : Fin 6) :
    s.holdEnded.reforce.outputs[n] = ⟨.host, false, none, false, !s.control.nrst.recognised⟩ := by
  have hline : s.holdEnded.outputs[n] = .powerOn := by simp [State.holdEnded, State.reset, State.powerOnValues]
  have hsafe : s.holdEnded.settings.outSafe n = false := by
    have hall : ∀ k : Fin 6, State.reset.settings.outSafe k = false := by decide +kernel
    exact hall n
  have hforces : s.holdEnded.Forces n ↔ s.control.nrst.recognised = false := by
    simp [State.Forces, State.holdEnded, State.reset, State.powerOnValues, Supervisor.powerOn]
  obtain ⟨hforced, hfree⟩ := s.holdEnded.reforce_spec n
  cases hhigh : s.control.nrst.recognised with
  | false => rw [hforced (hforces.2 hhigh), hline, hsafe]; rfl
  | true => rw [hfree (by rw [hforces, hhigh]; nofun), hline]; rfl

/-- POWER_ON_RESET in the power-on hold (R188; log entry 7). -/
theorem exec_powerOnReset {s : State} (h : s.control.op = .powerOnHold) :
    exec .powerOnReset s =
      .next { s.holdEnded with notify := State.reset.notify, outputs := s.holdEnded.reforce.outputs } := by
  show Host.Outcome.next s.powerOnResetEvent = _
  rw [State.powerOnResetEvent, if_pos h, State.powerOnReset_eq, ← s.holdEnded_recompute_notify]
  rfl

/-! ## POWER_ON_HOLD (R183, R188) -/

/-- POWER_ON_HOLD without a supply begins the hold with the first reading of nRST. -/
theorem exec_powerOnHold {s : State} (h : s.control.op = .unpowered) (high : Bool) :
    exec (.powerOnHold high) s = .next { s with
      control := { s.control with op := .powerOnHold, restoreCount := 0, nrst := ⟨high, 0, high⟩ } } := by
  show Host.Outcome.next (s.powerOnHold high) = _
  rw [State.powerOnHold, if_pos h]
  rfl

/-! ## NRST_READING (R183) -/

/-- The part with a reading of nRST made, before it acts on the level recognised: the second of two equal readings. -/
def State.readNrst (s : State) (high : Bool) : State :=
  { s with control := { s.control with
      nrst := ⟨high, 0, if s.control.nrst.last = high then high else s.control.nrst.recognised⟩ } }

/-- NRST_READING with a supply records the reading and acts on the level recognised, in the same command (log entry 9). -/
theorem exec_nrstReading {s : State} (h : s.control.op ≠ .unpowered) (high : Bool) :
    exec (.nrstReading high) s = .next (s.readNrst high).actOnNrst := by
  show Host.Outcome.next (s.nrstReading high) = _
  rw [State.nrstReading, if_neg h]
  rfl

/-- Without a supply nothing reads (R184). -/
theorem exec_nrstReading_unpowered {s : State} (h : s.control.op = .unpowered) (high : Bool) :
    exec (.nrstReading high) s = .next s := by
  show Host.Outcome.next (s.nrstReading high) = _
  rw [State.nrstReading, if_pos h]

/-- The part acts on the recognised level only in ACTIVE on the low one and in HELD on the high one (R183). -/
theorem State.actOnNrst_of_inert {s : State} (hactive : s.control.op = .active → s.control.nrst.recognised = true)
    (hheld : s.control.op = .held → s.control.nrst.recognised = false) : s.actOnNrst = s := by
  unfold State.actOnNrst
  split
  next hop hlow => exact absurd (hactive hop) (by simp [hlow])
  next hop hhigh => exact absurd (hheld hop) (by simp [hhigh])
  next => rfl

/-- In BACKUP and in the power-on hold a reading changes only the readings (R183, R188). -/
theorem exec_nrstReading_recorded {s : State} (h : s.control.op = .backup ∨ s.control.op = .powerOnHold) (high : Bool) :
    exec (.nrstReading high) s = .next (s.readNrst high) := by
  have hop : s.control.op ≠ .unpowered ∧ s.control.op ≠ .active ∧ s.control.op ≠ .held := by
    rcases h with h | h <;> simp [h]
  obtain ⟨hsupply, hactive, hheld⟩ := hop
  rw [exec_nrstReading hsupply, State.actOnNrst_of_inert (s := s.readNrst high) (absurd · hactive) (absurd · hheld)]

/-- The second low reading in ACTIVE is what ENTER_HELD stands for (R183, R185; log entry 9). -/
theorem exec_nrstReading_low {s : State} (hop : s.control.op = .active) (hlast : s.control.nrst.last = false) :
    exec (.nrstReading false) s = exec .enterHeld s := by
  have hread : s.readNrst false = s.recognise false := by simp [State.readNrst, hlast, State.recognise, State.setControl]
  have hact : (s.recognise false).actOnNrst = (s.recognise false).enterHeld := by
    simp [State.actOnNrst, State.recognise, hop]
  show _ = Host.Outcome.next s.heldEvent
  rw [exec_nrstReading (by simp [hop]), hread, hact, State.heldEvent, if_pos hop]

/-- The second high reading in HELD is what RELEASE stands for (R183, R189; log entry 9). -/
theorem exec_nrstReading_high {s : State} (hop : s.control.op = .held) (hlast : s.control.nrst.last = true) :
    exec (.nrstReading true) s = exec .release s := by
  have hread : s.readNrst true = s.recognise true := by simp [State.readNrst, hlast, State.recognise, State.setControl]
  have hact : (s.recognise true).actOnNrst = (s.recognise true).release .pin := by
    simp [State.actOnNrst, State.recognise, hop]
  show _ = Host.Outcome.next s.releaseEvent
  rw [exec_nrstReading (by simp [hop]), hread, hact, State.releaseEvent, if_pos hop]

/-- A reading that recognises no other level, where the part stands as the recognised one asks, changes only the readings
(R183). -/
theorem exec_nrstReading_inert {s : State} {high : Bool}
    (h : s.control.op = .active ∧ s.control.nrst.recognised = true ∧ (high = true ∨ s.control.nrst.last = true) ∨
      s.control.op = .held ∧ s.control.nrst.recognised = false ∧ (high = false ∨ s.control.nrst.last = false)) :
    exec (.nrstReading high) s =
      .next { s with control := { s.control with nrst := ⟨high, 0, s.control.nrst.recognised⟩ } } := by
  have hkept : (if s.control.nrst.last = high then high else s.control.nrst.recognised) = s.control.nrst.recognised := by
    rcases h with ⟨-, hrec, hread⟩ | ⟨-, hrec, hread⟩ <;> rcases hread with hread | hread <;> simp [hrec, hread]
  have hread : s.readNrst high = { s with control := { s.control with nrst := ⟨high, 0, s.control.nrst.recognised⟩ } } := by
    rw [State.readNrst, hkept]
  have hsupply : s.control.op ≠ .unpowered := by rcases h with ⟨hop, -⟩ | ⟨hop, -⟩ <;> simp [hop]
  rw [exec_nrstReading hsupply, hread, State.actOnNrst_of_inert]
  · intro hop
    rcases h with ⟨-, hrec, -⟩ | ⟨hheld, -⟩
    · exact hrec
    · exact nomatch hop.symm.trans hheld
  · intro hop
    rcases h with ⟨hactive, -⟩ | ⟨-, hrec, -⟩
    · exact nomatch hop.symm.trans hactive
    · exact hrec

/-- Settles O59: POWER_LOSS leaves the power-on values, and each other command does what its lemma above says. -/
theorem suppliesAndNrst : Obligations.SuppliesAndNrst := by
  intro s high
  refine ⟨⟨s.powerLoss, rfl, rfl, rfl, rfl, rfl, rfl, rfl, rfl, rfl, rfl, rfl⟩, (exec_powerOnHold · high),
    fun hop => ⟨_, exec_powerOnReset hop, rfl, s.holdEnded_reforce_line⟩, (exec_nrstReading_recorded · high),
    fun hop _ hlast hlow => ?low, fun hop _ hlast hhigh => ?high, exec_nrstReading_inert,
    (exec_nrstReading_unpowered · high)⟩
  case low => rw [hlow]; exact exec_nrstReading_low hop hlast
  case high => rw [hhigh]; exact exec_nrstReading_high hop hlast

end Sys2Proof.Machine
end
